-- ==== Sys2Proof/Word.lean ====
section
/-!
DEFINITION. The widths of the values the block handles: the 32-bit word, the 5-bit and 3-bit fields of a control
symbol, the 24-bit control-symbol body, the 16-bit packet CRC. No arithmetic of its own is needed: `+` and `-` on
these types are the `+%` and `-%` of rule R10.
-/

namespace Sys2Proof

/-- A 32-bit word: one packet word, an `arg`, a `result`, a counter, a time (R64, R97, R44, R41). -/
abbrev Word := BitVec 32

/-- A 5-bit field: an ackID, a buf_status, a cause, a port_status or a CRC-5 (R12, R85, R91, R92). -/
abbrev Field5 := BitVec 5

/-- A 3-bit field: stype0, stype1 or cmd (R85). -/
abbrev Field3 := BitVec 3

/-- A 24-bit control-symbol body (R85). -/
abbrev Body := BitVec 24

/-- A packet: its words in order; the length L of R97 is the length of the list. -/
abbrev Packet := List Word

end Sys2Proof
end

