-- ==== Sys2Proof/Config.lean ====
section
/-!
DEFINITION. What an implementation of the block fixes (R7): the open parameters, as a record that every State carries
and no operation writes, and the constants the spec fixes.
-/

namespace Sys2Proof

/-- The open parameters of R7 and of the table "Named parameters (OPEN)" of 92_eei_decisions.md. They are arguments of
the model: a State carries one `Config`, and no operation changes it. -/
structure Config where
  /-- `M`, RIOPACKET_SIZE_MAX: the largest packet, in words (D6). -/
  m : Nat
  /-- `RX_WORDS`: words of RXBUF (D7). -/
  rxWords : Nat
  /-- `TX_WORDS`: words of TXBUF (D7). -/
  txWords : Nat
  /-- `N_STATUS`: STATUS symbols before link-up (D17). -/
  nStatus : Nat
  /-- `CRC16_FIRST_MASK`: the bits of a packet's first word that enter the CRC-16 (D14). -/
  crc16FirstMask : Word
  /-- `LREQ_INPUT_STATUS`: the cmd of LINK_REQUEST(input-status) (D8). -/
  lreqInputStatus : Field3
  /-- `PS_OK`: port_status when the receiver was LINK_INITIALIZED (D10). -/
  psOk : Field5
  /-- `PS_RETRY_STOPPED`: port_status when the receiver was INPUT_RETRY_STOPPED (D10). -/
  psRetryStopped : Field5
  /-- `PS_ERROR_STOPPED`: port_status when the receiver was INPUT_ERROR_STOPPED (D10). -/
  psErrorStopped : Field5
  /-- `STYPE0_LINK_RESPONSE`: the stype0 code of LINK_RESPONSE (D55). -/
  stype0LinkResponse : Field3
  deriving DecidableEq, Repr

/-- The defaults of R7. RX_WORDS and TX_WORDS have no default: 140 words each is the setting of the spec's state UP2
and program P1 (95_test_vectors.md). DESIGN CHOICE, log entry 2. -/
def Config.standard : Config where
  m := 69
  rxWords := 140
  txWords := 140
  nStatus := 15
  crc16FirstMask := 0xFFFFFFFF#32
  lreqInputStatus := 4#3
  psOk := 16#5
  psRetryStopped := 4#5
  psErrorStopped := 5#5
  stype0LinkResponse := 5#3

/-- `SLOT_WORDS` of R7: one length word and M packet words. -/
def Config.slotWords (c : Config) : Nat := c.m + 1

/-- Parameter values the rules make sense for: a packet length fits the 32-bit length word of R61, and the stype0 code
of LINK_RESPONSE is none of the four codes that R86 gives to ACC, RETRY, NACC and STATUS. DEDUCED, log entry 3. -/
abbrev Config.ok (c : Config) : Prop :=
  c.m < 2 ^ 32 ∧ c.stype0LinkResponse ≠ 0#3 ∧ c.stype0LinkResponse ≠ 1#3 ∧
    c.stype0LinkResponse ≠ 2#3 ∧ c.stype0LinkResponse ≠ 4#3

/-- `QSIZE_MAX` of R7: the largest slot count of a queue. -/
def qsizeMax : Nat := 255

/-- `BS_MAX` of R7: the clamp on buffer status and on the window. -/
def bsMax : Nat := 31

/-- `PORT_TIMEOUT_RESET` of R7. -/
def portTimeoutReset : Word := 0xFFFFFFFF#32

end Sys2Proof
end

