-- ==== Sys2Proof/Syntax.lean ====
section
/-!
DEFINITION. The syntax of the block's interfaces: symbols (R80 to R84), the fields of a control symbol (R85), the
instructions (one constructor of `Instr` per row of spec/opcode_table.json), and the raw inputs of the block's encoded
interfaces (30_encoding.md), from which the decoder reads an instruction.
-/

namespace Sys2Proof

/-- A symbol of a symbol port, the tagged union of R80: `Idle`, `Control(u24)`, `Data(u32)`, `Error`. -/
inductive Symbol where
  /-- Tag 0 (R81). -/
  | idle
  /-- Tag 1 (R82): a control symbol body, CRC included. -/
  | control (c : Body)
  /-- Tag 2 (R83): one packet word. -/
  | data (w : Word)
  /-- Tag 3 (R84): the codec's report of an unrecoverable decode event. -/
  | error
  deriving DecidableEq, Repr

/-- The six fields of a control symbol body (R85). -/
structure ControlFields where
  /-- `stype0`, bits 23:21. -/
  stype0 : Field3
  /-- `param0`, bits 20:16. -/
  param0 : Field5
  /-- `param1`, bits 15:11. -/
  param1 : Field5
  /-- `stype1`, bits 10:8. -/
  stype1 : Field3
  /-- `cmd`, bits 7:5. -/
  cmd : Field3
  /-- `crc5`, bits 4:0. -/
  crc5 : Field5
  deriving DecidableEq, Repr

/-- One constructor per row of spec/opcode_table.json, in the table's order.

A row of format host-op is a host operation with the request fields it uses (R97, R98). A row of format symbol-tag is
the delivery of a symbol of that tag. A row of format control-stype0 or control-stype1 is the delivery of a control
symbol read by that half: the half's code is the constructor, every other field of the 24-bit body is an operand, the
CRC-5 field among them. -/
inductive Instr where
  -- host operations
  | openOp
  | portSetTime (t : Word)
  | portSetTimeout (dt : Word)
  | portSetStatus (arg : Word)
  | portAddSymbol (sym : Symbol)
  | portGetSymbol
  | setOutboundPacket (pkt : Packet)
  | getInboundPacket
  | getInboundQueueLength
  | getInboundQueueAvailable
  | getOutboundQueueLength
  | getOutboundQueueAvailable
  | getLinkIsInitialized
  | getStatus
  | getCounter (id : Word)
  -- reserved host operation codes; the operand is the whole code
  | reservedOp0F
  | reservedOp10To1F (op : BitVec 8)
  | reservedOp20To3F (op : BitVec 8)
  | reservedOp40To7F (op : BitVec 8)
  | reservedOp80ToFF (op : BitVec 8)
  -- symbols by tag
  | symIdle
  | symControl (c : Body)
  | symData (w : Word)
  | symError
  -- control symbols by stype0
  | packetAccepted (param0 param1 : Field5) (stype1 cmd : Field3) (crc : Field5)
  | packetRetry (param0 param1 : Field5) (stype1 cmd : Field3) (crc : Field5)
  | packetNotAccepted (param0 param1 : Field5) (stype1 cmd : Field3) (crc : Field5)
  | status (param0 param1 : Field5) (stype1 cmd : Field3) (crc : Field5)
  | linkResponse (param0 param1 : Field5) (stype1 cmd : Field3) (crc : Field5)
  | stype0Reserved3 (param0 param1 : Field5) (stype1 cmd : Field3) (crc : Field5)
  | stype0Reserved6 (param0 param1 : Field5) (stype1 cmd : Field3) (crc : Field5)
  | stype0Reserved7 (param0 param1 : Field5) (stype1 cmd : Field3) (crc : Field5)
  -- control symbols by stype1, and by cmd for a LINK_REQUEST
  | startOfPacket (stype0 : Field3) (param0 param1 : Field5) (cmd : Field3) (crc : Field5)
  | stomp (stype0 : Field3) (param0 param1 : Field5) (cmd : Field3) (crc : Field5)
  | endOfPacket (stype0 : Field3) (param0 param1 : Field5) (cmd : Field3) (crc : Field5)
  | restartFromRetry (stype0 : Field3) (param0 param1 : Field5) (cmd : Field3) (crc : Field5)
  | multicastEvent (stype0 : Field3) (param0 param1 : Field5) (cmd : Field3) (crc : Field5)
  | nop (stype0 : Field3) (param0 param1 : Field5) (cmd : Field3) (crc : Field5)
  | linkRequestInputStatus (stype0 : Field3) (param0 param1 : Field5) (crc : Field5)
  | linkRequestCmd0 (stype0 : Field3) (param0 param1 : Field5) (crc : Field5)
  | linkRequestCmd1 (stype0 : Field3) (param0 param1 : Field5) (crc : Field5)
  | linkRequestCmd2 (stype0 : Field3) (param0 param1 : Field5) (crc : Field5)
  | linkRequestCmd3 (stype0 : Field3) (param0 param1 : Field5) (crc : Field5)
  | linkRequestCmd5 (stype0 : Field3) (param0 param1 : Field5) (crc : Field5)
  | linkRequestCmd6 (stype0 : Field3) (param0 param1 : Field5) (crc : Field5)
  | linkRequestCmd7 (stype0 : Field3) (param0 param1 : Field5) (crc : Field5)
  | stype1Reserved6 (stype0 : Field3) (param0 param1 : Field5) (cmd : Field3) (crc : Field5)
  deriving DecidableEq, Repr

/-- A host operation request as it stands on the host port (R97): `(op, arg, sym, pkt)`, the symbol as its raw tag and
payload (R80). -/
structure Request where
  /-- `op`, 8 bits. -/
  op : BitVec 8
  /-- `arg`, 32 bits. -/
  arg : Word
  /-- The tag of `sym`, 2 bits. -/
  tag : BitVec 2
  /-- The payload of `sym`, 32 bits. -/
  payload : Word
  /-- `pkt`. -/
  pkt : Packet
  deriving DecidableEq, Repr

/-- What the block can be given, one case per format of spec/opcode_table.json. A symbol, and a control symbol body,
reach the block through PORT_ADD_SYMBOL only (R15, R278): their cases stand for a PORT_ADD_SYMBOL that carries them.
The two last cases are the same 24-bit body, read by its stype0 half or by its stype1 half: the table lists the halves
as two formats over the same bits. DESIGN CHOICE, log entry 5. -/
inductive Input where
  /-- A request on the host port (R97). -/
  | request (r : Request)
  /-- A symbol on the inbound symbol port (R80). -/
  | symbol (tag : BitVec 2) (payload : Word)
  /-- A control symbol body (R85), read by stype0. -/
  | controlByStype0 (c : Body)
  /-- A control symbol body (R85), read by stype1. -/
  | controlByStype1 (c : Body)
  deriving DecidableEq, Repr

end Sys2Proof
end

