-- ==== Sys2Proof/WellFormed.lean ====
section
/-!
DEFINITION. Which terms of `Instr` an encoding stands for. The widths of the operands are their types; what is left to
check is that the operand of a reserved host operation is a code of its own row's range (R98, R271).
-/

namespace Sys2Proof

/-- An instruction is well-formed when it is what some input encodes. -/
def WellFormed : Instr → Bool
  | .reservedOp10To1F op => 0x10 ≤ op.toNat && op.toNat ≤ 0x1F
  | .reservedOp20To3F op => 0x20 ≤ op.toNat && op.toNat ≤ 0x3F
  | .reservedOp40To7F op => 0x40 ≤ op.toNat && op.toNat ≤ 0x7F
  | .reservedOp80ToFF op => 0x80 ≤ op.toNat
  | .openOp => true
  | .portSetTime _ => true
  | .portSetTimeout _ => true
  | .portSetStatus _ => true
  | .portAddSymbol _ => true
  | .portGetSymbol => true
  | .setOutboundPacket _ => true
  | .getInboundPacket => true
  | .getInboundQueueLength => true
  | .getInboundQueueAvailable => true
  | .getOutboundQueueLength => true
  | .getOutboundQueueAvailable => true
  | .getLinkIsInitialized => true
  | .getStatus => true
  | .getCounter _ => true
  | .reservedOp0F => true
  | .symIdle => true
  | .symControl _ => true
  | .symData _ => true
  | .symError => true
  | .packetAccepted _ _ _ _ _ => true
  | .packetRetry _ _ _ _ _ => true
  | .packetNotAccepted _ _ _ _ _ => true
  | .status _ _ _ _ _ => true
  | .linkResponse _ _ _ _ _ => true
  | .stype0Reserved3 _ _ _ _ _ => true
  | .stype0Reserved6 _ _ _ _ _ => true
  | .stype0Reserved7 _ _ _ _ _ => true
  | .startOfPacket _ _ _ _ _ => true
  | .stomp _ _ _ _ _ => true
  | .endOfPacket _ _ _ _ _ => true
  | .restartFromRetry _ _ _ _ _ => true
  | .multicastEvent _ _ _ _ _ => true
  | .nop _ _ _ _ _ => true
  | .linkRequestInputStatus _ _ _ _ => true
  | .linkRequestCmd0 _ _ _ _ => true
  | .linkRequestCmd1 _ _ _ _ => true
  | .linkRequestCmd2 _ _ _ _ => true
  | .linkRequestCmd3 _ _ _ _ => true
  | .linkRequestCmd5 _ _ _ _ => true
  | .linkRequestCmd6 _ _ _ _ => true
  | .linkRequestCmd7 _ _ _ _ => true
  | .stype1Reserved6 _ _ _ _ _ => true

end Sys2Proof
end

