-- ==== Sys2Proof/Decode.lean ====
section
/-!
DEFINITION. The decoder: from an input of one of the block's encoded interfaces (30_encoding.md) to an instruction,
and the encoder back. Every code of every format has a row of the opcode table, the reserved ones among them, so
`decode` is total and has nothing to refuse; `tableInput` refuses a bit count that no format of the table has.
-/

namespace Sys2Proof

/-- The field split of R85. -/
def fieldsOf (c : Body) : ControlFields where
  stype0 := c.extractLsb' 21 3
  param0 := c.extractLsb' 16 5
  param1 := c.extractLsb' 11 5
  stype1 := c.extractLsb' 8 3
  cmd := c.extractLsb' 5 3
  crc5 := c.extractLsb' 0 5

/-- The 24 bits that have the given fields (R85): stype0 23:21, param0 20:16, param1 15:11, stype1 10:8, cmd 7:5,
crc5 4:0. -/
def bodyOf (f : ControlFields) : Body :=
  f.stype0 ++ f.param0 ++ f.param1 ++ f.stype1 ++ f.cmd ++ f.crc5

/-- The symbol a (tag, payload) pair stands for (R80 to R84). The payload of Idle and Error and bits 31:24 of a Control
payload are ignored (R81, R82, R84). -/
def symbolOfPort (tag : BitVec 2) (payload : Word) : Symbol :=
  match tag.toNat with
  | 0 => .idle
  | 1 => .control (payload.setWidth 24)
  | 2 => .data payload
  | _ => .error

/-- The tag of a symbol (R80). -/
def symbolTag : Symbol → BitVec 2
  | .idle => 0#2
  | .control _ => 1#2
  | .data _ => 2#2
  | .error => 3#2

/-- The payload of a symbol as the block puts it on a port: 0 for Idle, bits 31:24 zero for Control (R81, R82). -/
def symbolPayload : Symbol → Word
  | .idle => 0#32
  | .control c => c.setWidth 32
  | .data w => w
  | .error => 0#32

/-- A host operation by its code (R98, R271). Request fields that an operation does not use are ignored (R97). -/
def decodeRequest (r : Request) : Instr :=
  match r.op.toNat with
  | 0x00 => .openOp
  | 0x01 => .portSetTime r.arg
  | 0x02 => .portSetTimeout r.arg
  | 0x03 => .portSetStatus r.arg
  | 0x04 => .portAddSymbol (symbolOfPort r.tag r.payload)
  | 0x05 => .portGetSymbol
  | 0x06 => .setOutboundPacket r.pkt
  | 0x07 => .getInboundPacket
  | 0x08 => .getInboundQueueLength
  | 0x09 => .getInboundQueueAvailable
  | 0x0A => .getOutboundQueueLength
  | 0x0B => .getOutboundQueueAvailable
  | 0x0C => .getLinkIsInitialized
  | 0x0D => .getStatus
  | 0x0E => .getCounter r.arg
  | 0x0F => .reservedOp0F
  | n =>
    if n ≤ 0x1F then .reservedOp10To1F r.op
    else if n ≤ 0x3F then .reservedOp20To3F r.op
    else if n ≤ 0x7F then .reservedOp40To7F r.op
    else .reservedOp80ToFF r.op

/-- A symbol by its tag (R80 to R84). -/
def decodeSymbol (tag : BitVec 2) (payload : Word) : Instr :=
  match symbolOfPort tag payload with
  | .idle => .symIdle
  | .control c => .symControl c
  | .data w => .symData w
  | .error => .symError

/-- A control symbol by its stype0 code (R86). -/
def decodeByStype0 (f : ControlFields) : Instr :=
  match f.stype0.toNat with
  | 0 => .packetAccepted f.param0 f.param1 f.stype1 f.cmd f.crc5
  | 1 => .packetRetry f.param0 f.param1 f.stype1 f.cmd f.crc5
  | 2 => .packetNotAccepted f.param0 f.param1 f.stype1 f.cmd f.crc5
  | 3 => .stype0Reserved3 f.param0 f.param1 f.stype1 f.cmd f.crc5
  | 4 => .status f.param0 f.param1 f.stype1 f.cmd f.crc5
  | 5 => .linkResponse f.param0 f.param1 f.stype1 f.cmd f.crc5
  | 6 => .stype0Reserved6 f.param0 f.param1 f.stype1 f.cmd f.crc5
  | _ => .stype0Reserved7 f.param0 f.param1 f.stype1 f.cmd f.crc5

/-- A LINK_REQUEST by its cmd (R88). -/
def decodeLinkRequest (f : ControlFields) : Instr :=
  match f.cmd.toNat with
  | 0 => .linkRequestCmd0 f.stype0 f.param0 f.param1 f.crc5
  | 1 => .linkRequestCmd1 f.stype0 f.param0 f.param1 f.crc5
  | 2 => .linkRequestCmd2 f.stype0 f.param0 f.param1 f.crc5
  | 3 => .linkRequestCmd3 f.stype0 f.param0 f.param1 f.crc5
  | 4 => .linkRequestInputStatus f.stype0 f.param0 f.param1 f.crc5
  | 5 => .linkRequestCmd5 f.stype0 f.param0 f.param1 f.crc5
  | 6 => .linkRequestCmd6 f.stype0 f.param0 f.param1 f.crc5
  | _ => .linkRequestCmd7 f.stype0 f.param0 f.param1 f.crc5

/-- A control symbol by its stype1 code (R87). -/
def decodeByStype1 (f : ControlFields) : Instr :=
  match f.stype1.toNat with
  | 0 => .startOfPacket f.stype0 f.param0 f.param1 f.cmd f.crc5
  | 1 => .stomp f.stype0 f.param0 f.param1 f.cmd f.crc5
  | 2 => .endOfPacket f.stype0 f.param0 f.param1 f.cmd f.crc5
  | 3 => .restartFromRetry f.stype0 f.param0 f.param1 f.cmd f.crc5
  | 4 => decodeLinkRequest f
  | 5 => .multicastEvent f.stype0 f.param0 f.param1 f.cmd f.crc5
  | 6 => .stype1Reserved6 f.stype0 f.param0 f.param1 f.cmd f.crc5
  | _ => .nop f.stype0 f.param0 f.param1 f.cmd f.crc5

/-- The instruction an input stands for. -/
def decode : Input → Instr
  | .request r => decodeRequest r
  | .symbol tag payload => decodeSymbol tag payload
  | .controlByStype0 c => decodeByStype0 (fieldsOf c)
  | .controlByStype1 c => decodeByStype1 (fieldsOf c)

/-- A request with the given code, every other field 0 or empty. -/
def requestOf (op : BitVec 8) : Request where
  op := op
  arg := 0#32
  tag := 0#2
  payload := 0#32
  pkt := []

/-- The input for a host operation. -/
def encodeOp (op : BitVec 8) : Input := .request (requestOf op)

/-- The input for a host operation with an `arg`. -/
def encodeOpArg (op : BitVec 8) (arg : Word) : Input :=
  .request { requestOf op with arg := arg }

/-- The input for a symbol. -/
def encodeSymbol (sym : Symbol) : Input :=
  .symbol (symbolTag sym) (symbolPayload sym)

/-- The input for a control symbol read by stype0. -/
def encodeStype0 (s0 : Field3) (p0 p1 : Field5) (s1 cmd : Field3) (crc : Field5) : Input :=
  .controlByStype0 (bodyOf ⟨s0, p0, p1, s1, cmd, crc⟩)

/-- The input for a control symbol read by stype1. -/
def encodeStype1 (s1 : Field3) (s0 : Field3) (p0 p1 : Field5) (cmd : Field3) (crc : Field5) : Input :=
  .controlByStype1 (bodyOf ⟨s0, p0, p1, s1, cmd, crc⟩)

/-- The input that a well-formed instruction is encoded as; fields the instruction does not use are 0 or empty. -/
def encode : Instr → Input
  | .openOp => encodeOp 0x00#8
  | .portSetTime t => encodeOpArg 0x01#8 t
  | .portSetTimeout dt => encodeOpArg 0x02#8 dt
  | .portSetStatus arg => encodeOpArg 0x03#8 arg
  | .portAddSymbol sym =>
    .request { requestOf 0x04#8 with tag := symbolTag sym, payload := symbolPayload sym }
  | .portGetSymbol => encodeOp 0x05#8
  | .setOutboundPacket pkt => .request { requestOf 0x06#8 with pkt := pkt }
  | .getInboundPacket => encodeOp 0x07#8
  | .getInboundQueueLength => encodeOp 0x08#8
  | .getInboundQueueAvailable => encodeOp 0x09#8
  | .getOutboundQueueLength => encodeOp 0x0A#8
  | .getOutboundQueueAvailable => encodeOp 0x0B#8
  | .getLinkIsInitialized => encodeOp 0x0C#8
  | .getStatus => encodeOp 0x0D#8
  | .getCounter id => encodeOpArg 0x0E#8 id
  | .reservedOp0F => encodeOp 0x0F#8
  | .reservedOp10To1F op => encodeOp op
  | .reservedOp20To3F op => encodeOp op
  | .reservedOp40To7F op => encodeOp op
  | .reservedOp80ToFF op => encodeOp op
  | .symIdle => encodeSymbol .idle
  | .symControl c => encodeSymbol (.control c)
  | .symData w => encodeSymbol (.data w)
  | .symError => encodeSymbol .error
  | .packetAccepted p0 p1 s1 cmd crc => encodeStype0 0#3 p0 p1 s1 cmd crc
  | .packetRetry p0 p1 s1 cmd crc => encodeStype0 1#3 p0 p1 s1 cmd crc
  | .packetNotAccepted p0 p1 s1 cmd crc => encodeStype0 2#3 p0 p1 s1 cmd crc
  | .status p0 p1 s1 cmd crc => encodeStype0 4#3 p0 p1 s1 cmd crc
  | .linkResponse p0 p1 s1 cmd crc => encodeStype0 5#3 p0 p1 s1 cmd crc
  | .stype0Reserved3 p0 p1 s1 cmd crc => encodeStype0 3#3 p0 p1 s1 cmd crc
  | .stype0Reserved6 p0 p1 s1 cmd crc => encodeStype0 6#3 p0 p1 s1 cmd crc
  | .stype0Reserved7 p0 p1 s1 cmd crc => encodeStype0 7#3 p0 p1 s1 cmd crc
  | .startOfPacket s0 p0 p1 cmd crc => encodeStype1 0#3 s0 p0 p1 cmd crc
  | .stomp s0 p0 p1 cmd crc => encodeStype1 1#3 s0 p0 p1 cmd crc
  | .endOfPacket s0 p0 p1 cmd crc => encodeStype1 2#3 s0 p0 p1 cmd crc
  | .restartFromRetry s0 p0 p1 cmd crc => encodeStype1 3#3 s0 p0 p1 cmd crc
  | .multicastEvent s0 p0 p1 cmd crc => encodeStype1 5#3 s0 p0 p1 cmd crc
  | .nop s0 p0 p1 cmd crc => encodeStype1 7#3 s0 p0 p1 cmd crc
  | .linkRequestInputStatus s0 p0 p1 crc => encodeStype1 4#3 s0 p0 p1 4#3 crc
  | .linkRequestCmd0 s0 p0 p1 crc => encodeStype1 4#3 s0 p0 p1 0#3 crc
  | .linkRequestCmd1 s0 p0 p1 crc => encodeStype1 4#3 s0 p0 p1 1#3 crc
  | .linkRequestCmd2 s0 p0 p1 crc => encodeStype1 4#3 s0 p0 p1 2#3 crc
  | .linkRequestCmd3 s0 p0 p1 crc => encodeStype1 4#3 s0 p0 p1 3#3 crc
  | .linkRequestCmd5 s0 p0 p1 crc => encodeStype1 4#3 s0 p0 p1 5#3 crc
  | .linkRequestCmd6 s0 p0 p1 crc => encodeStype1 4#3 s0 p0 p1 6#3 crc
  | .linkRequestCmd7 s0 p0 p1 crc => encodeStype1 4#3 s0 p0 p1 7#3 crc
  | .stype1Reserved6 s0 p0 p1 cmd crc => encodeStype1 6#3 s0 p0 p1 cmd crc

/-- The four formats of spec/opcode_table.json. -/
inductive RowFormat where
  | hostOp
  | symbolTag
  | controlStype0
  | controlStype1
  deriving DecidableEq, Repr

/-- A row of spec/opcode_table.json: its format, and its `match` under its `mask`, as bits of a 24-bit number. -/
structure OpcodeRow where
  /-- The format. -/
  format : RowFormat
  /-- `match`. -/
  bits : BitVec 24
  /-- `mask`. -/
  mask : BitVec 24
  deriving DecidableEq, Repr

/-- The row of spec/opcode_table.json that an instruction stands for. -/
def opcodeRow : Instr → OpcodeRow
  | .openOp => ⟨.hostOp, 0x00#24, 0xFF#24⟩
  | .portSetTime _ => ⟨.hostOp, 0x01#24, 0xFF#24⟩
  | .portSetTimeout _ => ⟨.hostOp, 0x02#24, 0xFF#24⟩
  | .portSetStatus _ => ⟨.hostOp, 0x03#24, 0xFF#24⟩
  | .portAddSymbol _ => ⟨.hostOp, 0x04#24, 0xFF#24⟩
  | .portGetSymbol => ⟨.hostOp, 0x05#24, 0xFF#24⟩
  | .setOutboundPacket _ => ⟨.hostOp, 0x06#24, 0xFF#24⟩
  | .getInboundPacket => ⟨.hostOp, 0x07#24, 0xFF#24⟩
  | .getInboundQueueLength => ⟨.hostOp, 0x08#24, 0xFF#24⟩
  | .getInboundQueueAvailable => ⟨.hostOp, 0x09#24, 0xFF#24⟩
  | .getOutboundQueueLength => ⟨.hostOp, 0x0A#24, 0xFF#24⟩
  | .getOutboundQueueAvailable => ⟨.hostOp, 0x0B#24, 0xFF#24⟩
  | .getLinkIsInitialized => ⟨.hostOp, 0x0C#24, 0xFF#24⟩
  | .getStatus => ⟨.hostOp, 0x0D#24, 0xFF#24⟩
  | .getCounter _ => ⟨.hostOp, 0x0E#24, 0xFF#24⟩
  | .reservedOp0F => ⟨.hostOp, 0x0F#24, 0xFF#24⟩
  | .reservedOp10To1F _ => ⟨.hostOp, 0x10#24, 0xF0#24⟩
  | .reservedOp20To3F _ => ⟨.hostOp, 0x20#24, 0xE0#24⟩
  | .reservedOp40To7F _ => ⟨.hostOp, 0x40#24, 0xC0#24⟩
  | .reservedOp80ToFF _ => ⟨.hostOp, 0x80#24, 0x80#24⟩
  | .symIdle => ⟨.symbolTag, 0x0#24, 0x3#24⟩
  | .symControl _ => ⟨.symbolTag, 0x1#24, 0x3#24⟩
  | .symData _ => ⟨.symbolTag, 0x2#24, 0x3#24⟩
  | .symError => ⟨.symbolTag, 0x3#24, 0x3#24⟩
  | .packetAccepted _ _ _ _ _ => ⟨.controlStype0, 0x000000#24, 0xE00000#24⟩
  | .packetRetry _ _ _ _ _ => ⟨.controlStype0, 0x200000#24, 0xE00000#24⟩
  | .packetNotAccepted _ _ _ _ _ => ⟨.controlStype0, 0x400000#24, 0xE00000#24⟩
  | .status _ _ _ _ _ => ⟨.controlStype0, 0x800000#24, 0xE00000#24⟩
  | .linkResponse _ _ _ _ _ => ⟨.controlStype0, 0xA00000#24, 0xE00000#24⟩
  | .stype0Reserved3 _ _ _ _ _ => ⟨.controlStype0, 0x600000#24, 0xE00000#24⟩
  | .stype0Reserved6 _ _ _ _ _ => ⟨.controlStype0, 0xC00000#24, 0xE00000#24⟩
  | .stype0Reserved7 _ _ _ _ _ => ⟨.controlStype0, 0xE00000#24, 0xE00000#24⟩
  | .startOfPacket _ _ _ _ _ => ⟨.controlStype1, 0x000000#24, 0x000700#24⟩
  | .stomp _ _ _ _ _ => ⟨.controlStype1, 0x000100#24, 0x000700#24⟩
  | .endOfPacket _ _ _ _ _ => ⟨.controlStype1, 0x000200#24, 0x000700#24⟩
  | .restartFromRetry _ _ _ _ _ => ⟨.controlStype1, 0x000300#24, 0x000700#24⟩
  | .multicastEvent _ _ _ _ _ => ⟨.controlStype1, 0x000500#24, 0x000700#24⟩
  | .nop _ _ _ _ _ => ⟨.controlStype1, 0x000700#24, 0x000700#24⟩
  | .linkRequestInputStatus _ _ _ _ => ⟨.controlStype1, 0x000480#24, 0x0007E0#24⟩
  | .linkRequestCmd0 _ _ _ _ => ⟨.controlStype1, 0x000400#24, 0x0007E0#24⟩
  | .linkRequestCmd1 _ _ _ _ => ⟨.controlStype1, 0x000420#24, 0x0007E0#24⟩
  | .linkRequestCmd2 _ _ _ _ => ⟨.controlStype1, 0x000440#24, 0x0007E0#24⟩
  | .linkRequestCmd3 _ _ _ _ => ⟨.controlStype1, 0x000460#24, 0x0007E0#24⟩
  | .linkRequestCmd5 _ _ _ _ => ⟨.controlStype1, 0x0004A0#24, 0x0007E0#24⟩
  | .linkRequestCmd6 _ _ _ _ => ⟨.controlStype1, 0x0004C0#24, 0x0007E0#24⟩
  | .linkRequestCmd7 _ _ _ _ => ⟨.controlStype1, 0x0004E0#24, 0x0007E0#24⟩
  | .stype1Reserved6 _ _ _ _ _ => ⟨.controlStype1, 0x000600#24, 0x000700#24⟩

/-- The format that an input is read with. -/
def inputFormat : Input → RowFormat
  | .request _ => .hostOp
  | .symbol _ _ => .symbolTag
  | .controlByStype0 _ => .controlStype0
  | .controlByStype1 _ => .controlStype1

/-- The bits of an input that the opcode table numbers. -/
def inputBits : Input → BitVec 24
  | .request r => r.op.setWidth 24
  | .symbol tag _ => tag.setWidth 24
  | .controlByStype0 c => c
  | .controlByStype1 c => c

/-- An input has the format of a row and, under the row's mask, its bits. -/
def rowMatches (row : OpcodeRow) (x : Input) : Bool :=
  row.format == inputFormat x && inputBits x &&& row.mask == row.bits

/-- The input whose bits spec/opcode_table.json numbers as `w`, for a row of `nbits` bits. The table's four formats lie
over each other: 8 bits are a host operation code (a row of format symbol-tag has 2 bits), 16 bits are the low bits of a
body as a row of format control-stype1 gives them, and 24 bits are a body, read by stype1 when its stype1 and cmd bits
are the only ones set, and by stype0 otherwise. DESIGN CHOICE, log entry 6. -/
def tableInput (nbits w : Nat) : Option Input :=
  match nbits with
  | 2 => some (.symbol (BitVec.ofNat 2 w) 0#32)
  | 8 => some (encodeOp (BitVec.ofNat 8 w))
  | 16 => some (.controlByStype1 (BitVec.ofNat 24 w))
  | 24 =>
    let c := BitVec.ofNat 24 w
    if c ≠ 0#24 ∧ c &&& 0x0007E0#24 = c then some (.controlByStype1 c)
    else some (.controlByStype0 c)
  | _ => none

/-- What the decoder reads from a row of the opcode table (the host's interface). -/
def decodeTableWord (nbits w : Nat) : Option Instr :=
  (tableInput nbits w).map decode

end Sys2Proof
end

