-- ==== Sys2Proof/Machine/State.lean ====
section
/-!
DEFINITION. The state of the block as plain data (10_state.md), the state after reset (R330, R50), and the names of the
reasons a step can stop with.
-/

namespace Sys2Proof.Machine

/-- `rx_state` (R22). -/
inductive RxState where
  | uninitialized
  | portInitialized
  | linkInitialized
  | inputRetryStopped
  | inputErrorStopped
  deriving DecidableEq, Repr

/-- `tx_state` (R30). -/
inductive TxState where
  | uninitialized
  | portInitialized
  | linkInitialized
  | outputRetryStopped
  | outputErrorStopped
  deriving DecidableEq, Repr

/-- `tx_mailbox` (R31). -/
inductive Mailbox where
  | noRequest
  | sendPacketRetry
  | sendPacketNotAccepted
  | sendLinkResponse
  deriving DecidableEq, Repr

/-- `tx_frame_state` (R35). -/
inductive FrameState where
  | start
  | body
  deriving DecidableEq, Repr

/-- The receiver registers (R22 to R29). -/
structure RxRegs where
  /-- `rx_state` (R22). -/
  state : RxState
  /-- `rx_ackid`: the ackID the next inbound packet must carry (R23). -/
  ackid : Field5
  /-- `rx_ackid_acked`: the next ackID to acknowledge (R24). -/
  ackidAcked : Field5
  /-- `rx_counter`: data words stored of the packet being received, 0 to M (R25). -/
  counter : Nat
  /-- `rx_crc`: the running CRC-16 (R26). -/
  crc : BitVec 16
  /-- `rx_status_received` (R27). -/
  statusReceived : Bool
  /-- `rx_error_cause` (R28). -/
  errorCause : Field5
  /-- `rx_receiving` (R29). -/
  receiving : Bool
  deriving DecidableEq, Repr

/-- The transmitter registers (R30 to R40). -/
structure TxRegs where
  /-- `tx_state` (R30). -/
  state : TxState
  /-- `tx_mailbox` (R31). -/
  mailbox : Mailbox
  /-- `tx_mailbox_param` (R31). -/
  mailboxParam : Field5
  /-- `tx_lr_pending` (R32). -/
  lrPending : Bool
  /-- `tx_counter`: words emitted of the current packet, 0 to M (R33). -/
  counter : Nat
  /-- `tx_status_counter`, 0 to N_STATUS (R34). -/
  statusCounter : Nat
  /-- `tx_frame_state` (R35). -/
  frameState : FrameState
  /-- `tx_frame_timeout[0..31]`: a time stamp per ackID (R36). -/
  frameTimeout : Vector Word 32
  /-- `tx_ackid`: the oldest unacknowledged ackID (R37). -/
  ackid : Field5
  /-- `tx_ackid_window`: the ackID the next SOP carries (R38). -/
  ackidWindow : Field5
  /-- `tx_buffer_status`: the peer's advertised free slots (R39). -/
  bufferStatus : Field5
  /-- `tx_bufstat_sent`: the buf_status last advertised (R40). -/
  bufstatSent : Field5
  deriving DecidableEq, Repr

/-- The port registers (R41, R42). -/
structure PortRegs where
  /-- `port_time` (R41). -/
  time : Word
  /-- `port_timeout` (R42). -/
  timeout : Word
  deriving DecidableEq, Repr

/-- The control registers of one queue (R43). Each is 8 bits wide: the invariant `QueueOk` of Sys2Proof/Safety.lean keeps
every one at most 255. -/
structure Queue where
  /-- `size`: the slot count. -/
  size : Nat
  /-- `available`: the free slots. -/
  available : Nat
  /-- `window_size`: slots sent and not acknowledged (txq only). -/
  windowSize : Nat
  /-- `front_index`. -/
  frontIndex : Nat
  /-- `window_index` (txq only). -/
  windowIndex : Nat
  /-- `back_index`. -/
  backIndex : Nat
  deriving DecidableEq, Repr

/-- A packet buffer (R60): word address and word, addresses strictly rising. The spec's smallest addressable unit is the
32-bit word (R64), so a cell holds a word. An address that is not listed has never been written, and has no value
(R330); log entry 4. -/
abbrev Memory := List (Nat × Word)

/-- The response of a host operation (R97). -/
structure Response where
  /-- `result`, 0 when the operation defines none. -/
  result : Word
  /-- `sym`: the emitted symbol, Idle otherwise. -/
  sym : Symbol
  /-- `pkt`: the dequeued packet, empty otherwise. -/
  pkt : Packet
  deriving DecidableEq, Repr

/-- The response of an operation that defines neither a result, nor a symbol, nor a packet (R97). -/
def Response.plain : Response where
  result := 0#32
  sym := .idle
  pkt := []

/-- Everything the block holds (R21), and three fields of the model's own: `cfg`, the parameters of R7 (log entry 2),
`pending`, the operations the host has issued and the block has not run (log entry 1), and `response`, what stands on
the response side of the host port (R97, log entry 7). -/
structure State where
  /-- The receiver registers. -/
  rx : RxRegs
  /-- The transmitter registers. -/
  tx : TxRegs
  /-- The port registers. -/
  port : PortRegs
  /-- The control registers of the inbound queue. -/
  rxq : Queue
  /-- The control registers of the outbound queue. -/
  txq : Queue
  /-- `RXBUF`. -/
  rxbuf : Memory
  /-- `TXBUF`. -/
  txbuf : Memory
  /-- `counter[0..19]` (R44). -/
  counter : Vector Word 20
  /-- The parameters (R7). -/
  cfg : Config
  /-- The host's operations still to run, in the order it issued them, the next one first (R71, R337). -/
  pending : List Input
  /-- The response of the last operation (R97). -/
  response : Response
  deriving DecidableEq, Repr

/-- Why a step can fault. No state that keeps the invariants of R51 reaches one of these (R62, R131): they stand for a
primitive that is used outside its precondition. -/
inductive Fault where
  /-- A queue primitive needs a free slot and the queue has none: "`QueueFull`" (R125, R131, R134, R135). Raised by
  push_back, stage_word and commit_back. Safe: the spec gives no effect there, and the model stops. -/
  | queueFull
  /-- A queue primitive needs an occupied (or unsent) slot and the queue has none: "`QueueEmpty`" (R126 to R128, R130,
  R131). Raised by front_packet, window_packet, window_advance and pop_front. Safe, for the same reason. -/
  | queueEmpty
  /-- A buffer address outside `0 <= addr < size*(M+1)`, where MemRead and MemWrite are not defined (R62). Raised by
  every buffer access. Safe. -/
  | bufferAddress
  /-- A read of a buffer word that nothing has written since power-on: its contents are unspecified (R330), and "No
  rule reads a buffer word before writing it" (R77, R330). Raised by front_packet and window_packet. Safe. -/
  | bufferUnwritten
  deriving DecidableEq, Repr

/-- Why a step can be refused. -/
inductive Refusal where
  /-- The instruction has no meaning in this model. Raised by an arm of `exec` that is not written; there is none. Safe:
  the machine stops. -/
  | notModelled (mnemonic : String)
  deriving DecidableEq, Repr

/-- The receiver registers after OPEN and after PORT_SET_STATUS(1), but for `rx_state` (R50). -/
def rxCleared (st : RxState) : RxRegs where
  state := st
  ackid := 0#5
  ackidAcked := 0#5
  counter := 0
  crc := 0xFFFF#16
  statusReceived := false
  errorCause := 0#5
  receiving := false

/-- The transmitter registers after OPEN and after PORT_SET_STATUS(1), but for `tx_state` (R50). -/
def txCleared (st : TxState) : TxRegs where
  state := st
  mailbox := .noRequest
  mailboxParam := 0#5
  lrPending := false
  counter := 0
  statusCounter := 0
  frameState := .start
  frameTimeout := Vector.replicate 32 0#32
  ackid := 0#5
  ackidWindow := 0#5
  bufferStatus := 0#5
  bufstatSent := 0#5

/-- A queue after `init(q, WORDS)` (R120). -/
def queueInit (words slotWords : Nat) : Queue where
  size := min (words / slotWords) qsizeMax
  available := min (words / slotWords) qsizeMax
  windowSize := 0
  frontIndex := 0
  windowIndex := 0
  backIndex := 0

/-- The block after power-on with the given parameters (R330): the OPEN column of R50. Nothing has written the buffers,
no host operation is waiting. -/
def State.powerOn (cfg : Config) : State where
  rx := rxCleared .uninitialized
  tx := txCleared .uninitialized
  port := { time := 0#32, timeout := portTimeoutReset }
  rxq := queueInit cfg.rxWords cfg.slotWords
  txq := queueInit cfg.txWords cfg.slotWords
  rxbuf := []
  txbuf := []
  counter := Vector.replicate 20 0#32
  cfg := cfg
  pending := []
  response := Response.plain

/-- The block after power-on with the parameters of `Config.standard`. -/
def State.reset : State := State.powerOn Config.standard

end Sys2Proof.Machine
end

