-- ==== Sys2Proof/Machine/Crc.lean ====
section
/-!
DEFINITION. The two CRCs of 41_framing_crc.md and the control-symbol builder CS (R150 to R155).
-/

namespace Sys2Proof.Machine

/-- The bits of `v`, most significant first (R9: "MSB first"). -/
def bitsMsbFirst {n : Nat} (v : BitVec n) : List Bool :=
  (List.range n).reverse.map v.getLsbD

/-- One bit of the CRC-5 (R150): polynomial 0x15, the x^5 term implicit. -/
def crc5Bit (r : Field5) (b : Bool) : Field5 :=
  if xor (r.getLsbD 4) b then (r <<< 1) ^^^ 0x15#5 else r <<< 1

/-- `crc5(v)` of R150: initial value 0x1F, bits MSB first, no reflection, no final XOR. -/
def crc5 (v : BitVec 19) : Field5 :=
  (bitsMsbFirst v).foldl crc5Bit 0x1F#5

/-- The 19 bits `c[23:5]` that the CRC-5 covers (R150). -/
def crcCovered (c : Body) : BitVec 19 := c.extractLsb' 5 19

/-- An inbound control symbol is valid iff its CRC field is the CRC-5 of its other bits (R151). -/
def crcGood (c : Body) : Bool := crc5 (crcCovered c) == (fieldsOf c).crc5

/-- `CS(stype0, param0, param1, stype1, cmd)` of R152: the body with its CRC-5. -/
def controlSymbolOf (stype0 : Field3) (param0 param1 : Field5) (stype1 cmd : Field3) : Body :=
  bodyOf
    { stype0, param0, param1, stype1, cmd,
      crc5 := crc5 (crcCovered (bodyOf ⟨stype0, param0, param1, stype1, cmd, 0#5⟩)) }

/-- One bit of the CRC-16 (R155): polynomial 0x1021. -/
def crc16Bit (r : BitVec 16) (b : Bool) : BitVec 16 :=
  if xor (r.getLsbD 15) b then (r <<< 1) ^^^ 0x1021#16 else r <<< 1

/-- `crc16_word(w, r)` of R155. -/
def crc16Word (w : Word) (r : BitVec 16) : BitVec 16 :=
  (bitsMsbFirst w).foldl crc16Bit r

/-- The word that enters the CRC-16 for data word number `k` of a packet: the first is masked (R156). -/
def crc16Covered (cfg : Config) (k : Nat) (w : Word) : Word :=
  if k = 0 then w &&& cfg.crc16FirstMask else w

end Sys2Proof.Machine
end

