-- ==== Sys2Proof/Machine/Operands.lean ====
section
/-!
DEFINITION. The codes the block's operands take: counters (R44), stype0 and stype1 codes (R86, R87), not-accepted causes
(R91), port_status values (R92), and which symbols are unsupported (R93).
-/

namespace Sys2Proof.Machine

/-- The diagnostic counters of R44, in the order of their ids. -/
inductive CounterId where
  | inboundComplete
  | inboundRetry
  | inboundErrorControlCrc
  | inboundErrorPacketAckid
  | inboundErrorPacketCrc
  | inboundErrorIllegalCharacter
  | inboundErrorGeneral
  | inboundErrorPacketUnsupported
  | outboundComplete
  | outboundRetry
  | outboundLinkLatencyMax
  | outboundErrorTimeout
  | outboundErrorPacketAccepted
  | outboundErrorPacketRetry
  | partnerLinkRequest
  | partnerErrorControlCrc
  | partnerErrorPacketAckid
  | partnerErrorPacketCrc
  | partnerErrorIllegalCharacter
  | partnerErrorGeneral
  deriving DecidableEq, Repr

/-- The id of a counter (R44). -/
def counterIndex : CounterId → Fin 20
  | .inboundComplete => 0
  | .inboundRetry => 1
  | .inboundErrorControlCrc => 2
  | .inboundErrorPacketAckid => 3
  | .inboundErrorPacketCrc => 4
  | .inboundErrorIllegalCharacter => 5
  | .inboundErrorGeneral => 6
  | .inboundErrorPacketUnsupported => 7
  | .outboundComplete => 8
  | .outboundRetry => 9
  | .outboundLinkLatencyMax => 10
  | .outboundErrorTimeout => 11
  | .outboundErrorPacketAccepted => 12
  | .outboundErrorPacketRetry => 13
  | .partnerLinkRequest => 14
  | .partnerErrorControlCrc => 15
  | .partnerErrorPacketAckid => 16
  | .partnerErrorPacketCrc => 17
  | .partnerErrorIllegalCharacter => 18
  | .partnerErrorGeneral => 19

/-- stype0 PACKET_ACCEPTED (R86). -/
def stype0Acc : Field3 := 0#3
/-- stype0 PACKET_RETRY (R86). -/
def stype0Retry : Field3 := 1#3
/-- stype0 PACKET_NOT_ACCEPTED (R86). -/
def stype0Nacc : Field3 := 2#3
/-- stype0 STATUS (R86). -/
def stype0Status : Field3 := 4#3

/-- stype1 START_OF_PACKET (R87). -/
def stype1Sop : Field3 := 0#3
/-- stype1 STOMP (R87). -/
def stype1Stomp : Field3 := 1#3
/-- stype1 END_OF_PACKET (R87). -/
def stype1Eop : Field3 := 2#3
/-- stype1 RESTART_FROM_RETRY (R87). -/
def stype1Rfr : Field3 := 3#3
/-- stype1 LINK_REQUEST (R87). -/
def stype1Lreq : Field3 := 4#3
/-- stype1 MULTICAST_EVENT (R87). -/
def stype1Mce : Field3 := 5#3
/-- stype1 6, reserved (R87, R191). -/
def stype1Reserved : Field3 := 6#3
/-- stype1 NOP (R87). -/
def stype1Nop : Field3 := 7#3

/-- Cause unexpected_ackid (R91). -/
def causeUnexpectedAckid : Field5 := 1#5
/-- Cause control_crc (R91). -/
def causeControlCrc : Field5 := 2#5
/-- Cause packet_crc (R91). -/
def causePacketCrc : Field5 := 4#5
/-- Cause illegal_character (R91). -/
def causeIllegalCharacter : Field5 := 5#5
/-- Cause general (R91). -/
def causeGeneral : Field5 := 31#5

/-- The partner counter of a received not-accepted cause (R237): 1, 2, 4 and 5 have one each, every other cause is
general. -/
def partnerCounter (cause : Field5) : CounterId :=
  if cause = causeUnexpectedAckid then .partnerErrorPacketAckid
  else if cause = causeControlCrc then .partnerErrorControlCrc
  else if cause = causePacketCrc then .partnerErrorPacketCrc
  else if cause = causeIllegalCharacter then .partnerErrorIllegalCharacter
  else .partnerErrorGeneral

/-- The port_status reported for the receiver state before a LINK_REQUEST (R92, R188). R188 asks for it in the three
last states only. -/
def portStatusOf (cfg : Config) : RxState → Field5
  | .linkInitialized => cfg.psOk
  | .inputRetryStopped => cfg.psRetryStopped
  | .inputErrorStopped => cfg.psErrorStopped
  | .uninitialized => cfg.psOk
  | .portInitialized => cfg.psOk

/-- stype0 is one of the codes R176 calls unsupported: not ACC, RETRY, NACC or STATUS, and not the code of
LINK_RESPONSE. With the default `STYPE0_LINK_RESPONSE` = 5 these are 3, 6 and 7 (R93). -/
def stype0Unsupported (cfg : Config) (stype0 : Field3) : Bool :=
  !(stype0 == stype0Acc || stype0 == stype0Retry || stype0 == stype0Nacc || stype0 == stype0Status ||
    stype0 == cfg.stype0LinkResponse)

/-- A control symbol with a good CRC-5 is unsupported (R93, R177): a reserved stype0 unless stype1 is SOP, stype1 6, or a
LINK_REQUEST whose cmd is not `LREQ_INPUT_STATUS`. -/
def unsupported (cfg : Config) (f : ControlFields) : Bool :=
  (stype0Unsupported cfg f.stype0 && f.stype1 != stype1Sop) ||
    f.stype1 == stype1Reserved ||
    (f.stype1 == stype1Lreq && f.cmd != cfg.lreqInputStatus)

end Sys2Proof.Machine
end

