-- ==== Sys2Proof/Machine/Flags.lean ====
section
/-!
DEFINITION. The block has no condition codes (R48). This file holds what the rules derive from registers and test: queue
occupancy (R121 to R124), the views of 10_state.md section 7 (R45 to R47), the elapsed time (R239), `can_start`
(R240), and the observation codes (R22, R30, R31, R35, R99).
-/

namespace Sys2Proof.Machine

/-- `get_available(q)` (R121). -/
def queueAvailable (q : Queue) : Nat := q.available

/-- `get_used(q)` (R122). -/
def queueUsed (q : Queue) : Nat := q.size - q.available

/-- `get_window_used(q)` (R123). -/
def windowUsed (q : Queue) : Nat := q.windowSize

/-- `get_window_available(q)`: the queued packets not yet sent (R124). -/
def windowAvailable (q : Queue) : Nat := queueUsed q - q.windowSize

/-- `bs = min(rxq.available, 31)` (R47). -/
def bufStatus (s : State) : Field5 := BitVec.ofNat 5 (min s.rxq.available bsMax)

/-- The time stamp of an ackID (R36). -/
def frameStamp (t : TxRegs) (a : Field5) : Word := t.frameTimeout.get a.toFin

/-- `elapsed(t0) = port_time -% t0` (R13). -/
def elapsedSince (s : State) (t0 : Word) : Word := s.port.time - t0

/-- `el`, the elapsed time of the head of the window (R239). -/
def headElapsed (s : State) : Word := elapsedSince s (frameStamp s.tx s.tx.ackid)

/-- The timeout condition `el > port_timeout` (R239). -/
def timedOut (s : State) : Bool := s.port.timeout.toNat < (headElapsed s).toNat

/-- `can_start()` (R240). -/
def canStart (s : State) : Bool :=
  0 < windowAvailable s.txq && s.txq.windowSize < min s.tx.bufferStatus.toNat bsMax

/-- `rx_state` as R22 encodes it. -/
def rxStateCode : RxState → Nat
  | .uninitialized => 0
  | .portInitialized => 1
  | .linkInitialized => 2
  | .inputRetryStopped => 3
  | .inputErrorStopped => 4

/-- `tx_state` as R30 encodes it. -/
def txStateCode : TxState → Nat
  | .uninitialized => 0
  | .portInitialized => 1
  | .linkInitialized => 2
  | .outputRetryStopped => 3
  | .outputErrorStopped => 4

/-- `tx_mailbox` as R31 encodes it. -/
def mailboxCode : Mailbox → Nat
  | .noRequest => 0
  | .sendPacketRetry => 1
  | .sendPacketNotAccepted => 2
  | .sendLinkResponse => 3

/-- `tx_frame_state` as R35 encodes it. -/
def frameStateCode : FrameState → Nat
  | .start => 0
  | .body => 1

/-- The transmitter view of R45, as it is encoded for observation. -/
def txView (s : State) : Nat :=
  if s.tx.mailbox = .noRequest then txStateCode s.tx.state else 4 + mailboxCode s.tx.mailbox

/-- `link_is_initialized` (R46). -/
def linkIsInitialized (s : State) : Bool :=
  rxStateCode s.rx.state == 2 && txView s == 2

/-- The receiver states in which a bad CRC-5 or an Error symbol raises an input error (R173, R175, R301). -/
def inputErrorArmed (s : State) : Bool :=
  s.rx.state == .linkInitialized || s.rx.state == .inputRetryStopped

/-- The transmitter states in which ACC, RETRY and NACC are acted on (R235 to R237, R305). -/
def outputActive (s : State) : Bool :=
  s.tx.state == .linkInitialized || s.tx.state == .outputRetryStopped

/-- An acknowledgement is pending (R24). -/
def ackPending (s : State) : Bool := s.rx.ackidAcked != s.rx.ackid

end Sys2Proof.Machine
end

