-- ==== Sys2Proof/Machine/Ops.lean ====
section
/-!
DEFINITION. The shared operations: buffer accesses (20_memory.md), counters (R11), the queue primitives (40_queue.md), the
three error events and the recovery steps (60_exceptions.md), the emission helpers (R221), and the form of an outcome.
A primitive used outside its precondition is a fault (R62, R131).
-/

namespace Sys2Proof.Machine

/-- The buffer's form: addresses strictly rising, so that equal buffers are equal lists. -/
abbrev Memory.wf (mem : Memory) : Prop := mem.Pairwise (fun a b => a.1 < b.1)

/-- The word at an address, if one has been written there. -/
def bufRead : Memory → Nat → Option Word
  | [], _ => none
  | (a, w) :: rest, addr => if addr = a then some w else bufRead rest addr

/-- The buffer with one word written; the list stays in order. -/
def bufWrite : Memory → Nat → Word → Memory
  | [], addr, v => [(addr, v)]
  | (a, w) :: rest, addr, v =>
    if addr < a then (addr, v) :: (a, w) :: rest
    else if addr = a then (addr, v) :: rest
    else (a, w) :: bufWrite rest addr v

/-- `MemRead(buf, addr)`, defined for `addr < limit` (R62) and for a word that has been written (R77). -/
def memRead (mem : Memory) (limit addr : Nat) : Except Fault Word :=
  if addr < limit then
    match bufRead mem addr with
    | some w => .ok w
    | none => .error .bufferUnwritten
  else .error .bufferAddress

/-- `MemWrite(buf, addr, v)`, defined for `addr < limit` (R62). -/
def memWrite (mem : Memory) (limit addr : Nat) (v : Word) : Except Fault Memory :=
  if addr < limit then .ok (bufWrite mem addr v) else .error .bufferAddress

/-- `MemRead` of `n` words from `addr` on. -/
def memReadWords (mem : Memory) (limit addr : Nat) : Nat → Except Fault (List Word)
  | 0 => .ok []
  | n + 1 =>
    match memRead mem limit addr with
    | .error e => .error e
    | .ok w =>
      match memReadWords mem limit (addr + 1) n with
      | .error e => .error e
      | .ok ws => .ok (w :: ws)

/-- `MemWrite` of the words from `addr` on. -/
def memWriteWords (mem : Memory) (limit addr : Nat) : List Word → Except Fault Memory
  | [] => .ok mem
  | w :: ws =>
    match memWrite mem limit addr w with
    | .error e => .error e
    | .ok mem' => memWriteWords mem' limit (addr + 1) ws

/-- The first word address of slot `i` (R61). -/
def slotBase (cfg : Config) (i : Nat) : Nat := i * cfg.slotWords

/-- The end of the addresses a queue's slots occupy: `size*(M+1)` (R61, R62). -/
def slotLimit (cfg : Config) (q : Queue) : Nat := q.size * cfg.slotWords

/-- `push_back(q, L, w[0..L-1])` (R125). -/
def pushBack (cfg : Config) (q : Queue) (mem : Memory) (pkt : Packet) : Except Fault (Queue × Memory) :=
  if q.available = 0 then .error .queueFull
  else
    let base := slotBase cfg q.backIndex
    match memWriteWords mem (slotLimit cfg q) base (BitVec.ofNat 32 pkt.length :: pkt) with
    | .error e => .error e
    | .ok mem' =>
      .ok ({ q with backIndex := (q.backIndex + 1) % q.size, available := q.available - 1 }, mem')

/-- The packet in slot `i`: its length word and then its words (R61, R126). -/
def slotPacket (cfg : Config) (q : Queue) (mem : Memory) (i : Nat) : Except Fault Packet :=
  match memRead mem (slotLimit cfg q) (slotBase cfg i) with
  | .error e => .error e
  | .ok len => memReadWords mem (slotLimit cfg q) (slotBase cfg i + 1) len.toNat

/-- `front_packet(q)` (R126). -/
def frontPacket (cfg : Config) (q : Queue) (mem : Memory) : Except Fault Packet :=
  if queueUsed q = 0 then .error .queueEmpty else slotPacket cfg q mem q.frontIndex

/-- `window_packet(q)` (R127). -/
def windowPacket (cfg : Config) (q : Queue) (mem : Memory) : Except Fault Packet :=
  if windowAvailable q = 0 then .error .queueEmpty else slotPacket cfg q mem q.windowIndex

/-- `window_advance(q)` (R128). -/
def windowAdvance (q : Queue) : Except Fault Queue :=
  if windowAvailable q = 0 then .error .queueEmpty
  else .ok { q with windowIndex := (q.windowIndex + 1) % q.size, windowSize := q.windowSize + 1 }

/-- `window_reset(q)` (R129). -/
def windowReset (q : Queue) : Queue := { q with windowIndex := q.frontIndex, windowSize := 0 }

/-- `pop_front(q)` (R130). -/
def popFront (q : Queue) : Except Fault Queue :=
  if queueUsed q = 0 then .error .queueEmpty
  else
    let front := (q.frontIndex + 1) % q.size
    if 0 < q.windowSize then
      .ok { q with frontIndex := front, available := q.available + 1, windowSize := q.windowSize - 1 }
    else
      .ok { q with frontIndex := front, available := q.available + 1, windowIndex := front }

/-- The `repeat d times: pop_front` of R238 as the one-step update R238 and D60 ask for, for `d` packets of the window:
`front_index += d`, `available += d`, `window_size -= d`. -/
def popFrontMany (q : Queue) (d : Nat) : Except Fault Queue :=
  if d = 0 then .ok q
  else if queueUsed q < d then .error .queueEmpty
  else
    .ok { q with
      frontIndex := (q.frontIndex + d) % q.size
      available := q.available + d
      windowSize := q.windowSize - d }

/-- `commit_back(q, L)` (R134). -/
def commitBack (cfg : Config) (q : Queue) (mem : Memory) (len : Nat) : Except Fault (Queue × Memory) :=
  if q.available = 0 then .error .queueFull
  else
    match memWrite mem (slotLimit cfg q) (slotBase cfg q.backIndex) (BitVec.ofNat 32 len) with
    | .error e => .error e
    | .ok mem' =>
      .ok ({ q with backIndex := (q.backIndex + 1) % q.size, available := q.available - 1 }, mem')

/-- The word address `stage_word(q, k, w)` writes (R135). -/
def stageAddress (cfg : Config) (q : Queue) (k : Nat) : Nat := slotBase cfg q.backIndex + 1 + k

/-- `stage_word(q, k, w)` (R135). -/
def stageWord (cfg : Config) (q : Queue) (mem : Memory) (k : Nat) (w : Word) : Except Fault Memory :=
  if q.available = 0 then .error .queueFull
  else memWrite mem (slotLimit cfg q) (stageAddress cfg q k) w

/-- The value of a diagnostic counter. -/
def counterOf (s : State) (c : CounterId) : Word := s.counter.get (counterIndex c)

/-- Writes a diagnostic counter. -/
def setCounter (c : CounterId) (v : Word) (s : State) : State :=
  { s with counter := s.counter.set (counterIndex c) v }

/-- The largest counter value (R11). -/
def counterMax : Nat := 0xFFFFFFFF

/-- A counter value raised by `d`, saturating (R11, D59). -/
def saturatingAdd (v : Word) (d : Nat) : Word := BitVec.ofNat 32 (min (v.toNat + d) counterMax)

/-- `inc(c)` done `d` times at once (R11, R238, D59). -/
def incBy (c : CounterId) (d : Nat) (s : State) : State :=
  setCounter c (saturatingAdd (counterOf s c) d) s

/-- `inc(c)` (R11). -/
def inc (c : CounterId) (s : State) : State := incBy c 1 s

/-- `raise InputError(cause)` (R302): the receiver's error event. -/
def inputError (cause : Field5) (s : State) : State :=
  { s with
    rx := { s.rx with state := .inputErrorStopped, errorCause := cause, receiving := false, counter := 0 }
    tx := { s.tx with mailbox := .sendPacketNotAccepted, mailboxParam := cause } }

/-- `raise InputRetry` (R303): the receiver's retry event. -/
def inputRetry (s : State) : State :=
  inc .inboundRetry
    { s with
      rx := { s.rx with state := .inputRetryStopped, receiving := false, counter := 0 }
      tx := { s.tx with mailbox := .sendPacketRetry, mailboxParam := 0#5 } }

/-- `abort_frame()` (R241). -/
def abortFrame (t : TxRegs) : TxRegs := { t with frameState := .start, counter := 0 }

/-- `raise OutputError` (R305): the transmitter's error event. -/
def outputError (s : State) : State :=
  { s with tx := abortFrame { s.tx with state := .outputErrorStopped, lrPending := true } }

/-- The way back from an input error or an input retry by a LINK_REQUEST (R188, R304), for a receiver that is past
initialization: the receiver is LINK_INITIALIZED again and a LINK_RESPONSE with port_status `ps` is requested. -/
def inputRecover (ps : Field5) (s : State) : State :=
  { s with
    rx := { s.rx with
      state := .linkInitialized, receiving := false, counter := 0, ackidAcked := s.rx.ackid }
    tx := { s.tx with mailbox := .sendLinkResponse, mailboxParam := ps } }

/-- The way back from an output error or an output retry (R238, R241, R307): the transmitter sends again from `a`. -/
def outputRecover (a : Field5) (s : State) : State :=
  { s with
    tx := abortFrame { s.tx with state := .linkInitialized, ackid := a, ackidWindow := a }
    txq := windowReset s.txq }

/-- `tx_buffer_status <- p1` (R183). -/
def setBufferStatus (p1 : Field5) (s : State) : State := { s with tx := { s.tx with bufferStatus := p1 } }

/-- Stamps an ackID with `port_time` (R36). -/
def stampFrame (a : Field5) (s : State) : State :=
  { s with tx := { s.tx with frameTimeout := s.tx.frameTimeout.set a.toFin s.port.time } }

/-- `tx_bufstat_sent <- bs` (R221). -/
def recordBufStatus (s : State) : State := { s with tx := { s.tx with bufstatSent := bufStatus s } }

/-- `emit(Control(CS(...)))` of a symbol that carries `bs` in param1: STATUS forms (R221), ACC (R224), RETRY (R223). -/
def emitWithBs (stype0 : Field3) (p0 : Field5) (s1 cmd : Field3) (s : State) : State × Symbol :=
  (recordBufStatus s, .control (controlSymbolOf stype0 p0 (bufStatus s) s1 cmd))

/-- `emit_st(p0, s1, cmd)` (R221). -/
def emitSt (p0 : Field5) (s1 cmd : Field3) (s : State) : State × Symbol :=
  emitWithBs stype0Status p0 s1 cmd s

/-- The end of an operation: its response stands on the host port (R97). -/
def respond (resp : Response) (s : State) : Host.Outcome State Fault Refusal :=
  .next { s with response := resp }

/-- The end of an operation that defines no result (R97), or the fault it met. -/
def finish : Except Fault State → Host.Outcome State Fault Refusal
  | .ok s => respond Response.plain s
  | .error e => .fault e

/-- The end of an operation that returns a result (R97). -/
def finishResult (result : Word) (s : State) : Host.Outcome State Fault Refusal :=
  respond { Response.plain with result := result } s

end Sys2Proof.Machine
end

