-- ==== Sys2Proof/Machine/Acks.lean ====
section
/-!
DEFINITION. The transmitter's four acknowledgement handlers, which the receiver calls for the stype0 half of an inbound
control symbol (43_transmitter.md section 2).
-/

namespace Sys2Proof.Machine

/-- `outbound_link_latency_max` raised to a latency (R235). -/
def recordLatency (lat : Word) (s : State) : State :=
  if (counterOf s .outboundLinkLatencyMax).toNat < lat.toNat then setCounter .outboundLinkLatencyMax lat s else s

/-- `on_accepted(a)` (R235). -/
def onAccepted (a : Field5) (s : State) : Except Fault State :=
  if outputActive s = false then .ok s
  else if a = s.tx.ackid ∧ 0 < s.txq.windowSize then
    match popFront s.txq with
    | .error e => .error e
    | .ok q =>
      let s' := recordLatency (elapsedSince s (frameStamp s.tx a)) s
      .ok (inc .outboundComplete { s' with txq := q, tx := { s'.tx with ackid := s'.tx.ackid + 1#5 } })
  else .ok (outputError (inc .outboundErrorPacketAccepted s))

/-- `on_retry(a)` (R236, R306). -/
def onRetry (a : Field5) (s : State) : State :=
  if outputActive s = false then s
  else if a = s.tx.ackid then
    inc .outboundRetry
      { s with
        txq := windowReset s.txq
        tx := abortFrame { s.tx with ackidWindow := s.tx.ackid, state := .outputRetryStopped } }
  else outputError (inc .outboundErrorPacketRetry s)

/-- `on_not_accepted(cause)` (R237). -/
def onNotAccepted (cause : Field5) (s : State) : State :=
  if outputActive s then outputError (inc (partnerCounter cause) s) else inc (partnerCounter cause) s

/-- The packets a LINK_RESPONSE reports as committed by the peer: `d = a -% tx_ackid` (R238). -/
def deliveredCount (a : Field5) (s : State) : Nat := (a - s.tx.ackid).toNat

/-- `on_link_response(a)` (R238). -/
def onLinkResponse (a : Field5) (s : State) : Except Fault State :=
  if s.tx.state ≠ .outputErrorStopped ∨ s.tx.lrPending = true then .ok s
  else if s.txq.windowSize < deliveredCount a s then .ok s
  else
    match popFrontMany s.txq (deliveredCount a s) with
    | .error e => .error e
    | .ok q =>
      .ok (inc .outboundRetry (outputRecover a (incBy .outboundComplete (deliveredCount a s) { s with txq := q })))

end Sys2Proof.Machine
end

