-- ==== Sys2Proof/Machine/Receiver.lean ====
section
/-!
DEFINITION. The receiver (42_receiver.md): what the delivery of one inbound symbol does, but for the transmitter's
acknowledgement handlers (Sys2Proof/Machine/Acks.lean).
-/

namespace Sys2Proof.Machine

/-- `commit()` (R194). -/
def commitPacket (s : State) : Except Fault State :=
  match commitBack s.cfg s.rxq s.rxbuf s.rx.counter with
  | .error e => .error e
  | .ok (q, mem) =>
    .ok (inc .inboundComplete
      { s with
        rxq := q
        rxbuf := mem
        rx := { s.rx with ackid := s.rx.ackid + 1#5, receiving := false, counter := 0 } })

/-- `error_symbol()` (R173), in a port that is up. -/
def errorSymbol (s : State) : State :=
  if inputErrorArmed s then inputError causeIllegalCharacter (inc .inboundErrorIllegalCharacter s)
  else inc .inboundErrorIllegalCharacter s

/-- `data_symbol(w)` (R174). -/
def dataSymbol (w : Word) (s : State) : Except Fault State :=
  if s.rx.state ≠ .linkInitialized then .ok s
  else if s.rx.receiving = false ∨ s.rx.counter = s.cfg.m then
    .ok (inputError causeGeneral (inc .inboundErrorGeneral s))
  else
    match stageWord s.cfg s.rxq s.rxbuf s.rx.counter w with
    | .error e => .error e
    | .ok mem =>
      .ok { s with
        rxbuf := mem
        rx := { s.rx with
          crc := crc16Word (crc16Covered s.cfg s.rx.counter w) s.rx.crc
          counter := s.rx.counter + 1 } }

/-- A control symbol with a bad CRC-5 (R175): counted, and no field of it is used. -/
def badCrcSymbol (s : State) : State :=
  if inputErrorArmed s then inputError causeControlCrc (inc .inboundErrorControlCrc s)
  else inc .inboundErrorControlCrc s

/-- `on_status(a)` (R181). -/
def onStatus (a : Field5) (s : State) : State :=
  if s.rx.state = .portInitialized ∧ a = s.tx.ackid then
    { s with rx := { s.rx with statusReceived := true, state := .linkInitialized } }
  else s

/-- `on_eop()` (R186). -/
def onEop (s : State) : Except Fault State :=
  if s.rx.state ≠ .linkInitialized then .ok s
  else if s.rx.receiving = false ∨ s.rx.counter = 0 then
    .ok (inputError causeGeneral (inc .inboundErrorGeneral s))
  else if s.rx.crc ≠ 0#16 then
    .ok (inputError causePacketCrc (inc .inboundErrorPacketCrc s))
  else commitPacket s

/-- The part of `on_sop(a)` after the implicit end of a previous packet (R184). -/
def startPacket (a : Field5) (s : State) : State :=
  if a ≠ s.rx.ackid then inputError causeUnexpectedAckid (inc .inboundErrorPacketAckid s)
  else if s.rxq.available = 0 then inputRetry s
  else { s with rx := { s.rx with receiving := true, counter := 0, crc := 0xFFFF#16 } }

/-- `on_sop(a)` (R184). -/
def onSop (a : Field5) (s : State) : Except Fault State :=
  if s.rx.state ≠ .linkInitialized then .ok s
  else if s.rx.receiving then
    match onEop s with
    | .error e => .error e
    | .ok s' => if s'.rx.state ≠ .linkInitialized then .ok s' else .ok (startPacket a s')
  else .ok (startPacket a s)

/-- `on_stomp()` (R185). -/
def onStomp (s : State) : State :=
  if s.rx.state = .linkInitialized ∧ s.rx.receiving = true then
    { s with rx := { s.rx with receiving := false, counter := 0 } }
  else s

/-- `on_restart_from_retry()` (R187). -/
def onRestartFromRetry (s : State) : State :=
  if s.rx.state = .inputRetryStopped then { s with rx := { s.rx with state := .linkInitialized } } else s

/-- `on_link_request()` (R188). A receiver that is UNINITIALIZED ignores every symbol before this rule is reached
(R171). -/
def onLinkRequest (s : State) : State :=
  if s.rx.state = .uninitialized ∨ s.rx.state = .portInitialized then inc .partnerLinkRequest s
  else inputRecover (portStatusOf s.cfg s.rx.state) (inc .partnerLinkRequest s)

/-- A LINK_REQUEST with the given cmd (R176, R188): handled if the cmd is `LREQ_INPUT_STATUS`. -/
def linkRequestHalf (cmd : Field3) (s : State) : State :=
  if cmd = s.cfg.lreqInputStatus then onLinkRequest s else s

/-- stype0 = PACKET_ACCEPTED (R178). -/
def acceptedHalf (p0 p1 : Field5) (s : State) : Except Fault State := onAccepted p0 (setBufferStatus p1 s)

/-- stype0 = PACKET_RETRY (R179). -/
def retryHalf (p0 p1 : Field5) (s : State) : Except Fault State := .ok (onRetry p0 (setBufferStatus p1 s))

/-- stype0 = PACKET_NOT_ACCEPTED (R180): param1 is the cause. -/
def notAcceptedHalf (cause : Field5) (s : State) : Except Fault State := .ok (onNotAccepted cause s)

/-- stype0 = STATUS (R181). -/
def statusHalf (p0 p1 : Field5) (s : State) : Except Fault State := .ok (onStatus p0 (setBufferStatus p1 s))

/-- A stype0 code other than ACC, RETRY, NACC and STATUS: LINK_RESPONSE if it is the code of the parameter
`STYPE0_LINK_RESPONSE` (R182), and without effect otherwise (R177). -/
def linkResponseHalf (code : Field3) (p0 : Field5) (s : State) : Except Fault State :=
  if code = s.cfg.stype0LinkResponse then onLinkResponse p0 s else .ok s

/-- The stype0 half of a control symbol that is no SOP (R176). -/
def stype0Code (f : ControlFields) (s : State) : Except Fault State :=
  if f.stype0 = stype0Acc then acceptedHalf f.param0 f.param1 s
  else if f.stype0 = stype0Retry then retryHalf f.param0 f.param1 s
  else if f.stype0 = stype0Nacc then notAcceptedHalf f.param1 s
  else if f.stype0 = stype0Status then statusHalf f.param0 f.param1 s
  else linkResponseHalf f.stype0 f.param0 s

/-- The stype0 step of R176 with `half` for the stype0 code: an SOP's stype0 is ignored and its param1 is the peer's
buf_status (R90). -/
def stype0Step (f : ControlFields) (half : State → Except Fault State) (s : State) : Except Fault State :=
  if f.stype1 = stype1Sop then .ok (setBufferStatus f.param1 s) else half s

/-- The stype1 half of a control symbol (R176). -/
def stype1Code (f : ControlFields) (s : State) : Except Fault State :=
  if f.stype1 = stype1Sop then onSop f.param0 s
  else if f.stype1 = stype1Stomp then .ok (onStomp s)
  else if f.stype1 = stype1Eop then onEop s
  else if f.stype1 = stype1Rfr then .ok (onRestartFromRetry s)
  else if f.stype1 = stype1Lreq then .ok (linkRequestHalf f.cmd s)
  else .ok s

/-- The last line of R176: an unsupported symbol is counted once (R177). -/
def countUnsupported (f : ControlFields) (s : State) : State :=
  if unsupported s.cfg f then inc .inboundErrorPacketUnsupported s else s

/-- R176 for a symbol with a good CRC-5, with `half0` for its stype0 code and `half1` for its stype1 code: stype0 first,
stype1 in the state that leaves, then the count of unsupported symbols. -/
def goodSymbol (f : ControlFields) (half0 half1 : State → Except Fault State) (s : State) :
    Except Fault State :=
  match stype0Step f half0 s with
  | .error e => .error e
  | .ok s1 =>
    match half1 s1 with
    | .error e => .error e
    | .ok s2 => .ok (countUnsupported f s2)

/-- A control symbol in a port that is up (R175, R176): the CRC-5 is checked first. -/
def controlSymbolWith (f : ControlFields) (half0 half1 : State → Except Fault State) (s : State) :
    Except Fault State :=
  if crcGood (bodyOf f) then goodSymbol f half0 half1 s else .ok (badCrcSymbol s)

/-- `control_symbol(c)` (R175, R176). -/
def controlSymbol (c : Body) (s : State) : Except Fault State :=
  controlSymbolWith (fieldsOf c) (stype0Code (fieldsOf c)) (stype1Code (fieldsOf c)) s

/-- The gate of R170 and R171: an UNINITIALIZED receiver ignores every symbol. -/
def whenPortUp (handle : State → Except Fault State) (s : State) : Except Fault State :=
  if s.rx.state = .uninitialized then .ok s else handle s

/-- `add_symbol(sym)` (R170). -/
def addSymbol (sym : Symbol) (s : State) : Except Fault State :=
  whenPortUp (fun s =>
    match sym with
    | .idle => .ok s
    | .error => .ok (errorSymbol s)
    | .data w => dataSymbol w s
    | .control c => controlSymbol c s) s

/-- The delivery of a control symbol that the table lists by its stype0 code, with `half` for that code: the whole of R170
for the symbol with fields `f`, ended as PORT_ADD_SYMBOL ends (R278). -/
def deliverByStype0 (f : ControlFields) (half : State → Except Fault State) (s : State) :
    Host.Outcome State Fault Refusal :=
  finish (whenPortUp (controlSymbolWith f half (stype1Code f)) s)

/-- The delivery of a control symbol that the table lists by its stype1 code, with `half` for that code. -/
def deliverByStype1 (f : ControlFields) (half : State → Except Fault State) (s : State) :
    Host.Outcome State Fault Refusal :=
  finish (whenPortUp (controlSymbolWith f (stype0Code f) half) s)

end Sys2Proof.Machine
end

