-- ==== Sys2Proof/Machine/ControlStype0.lean ====
section
/-!
DEFINITION. The delivery of a control symbol, read by its stype0 code (R86), one meaning per row of format control-stype0.
Each handles the whole symbol: the gate of R171, the CRC-5 check of R175, both halves in the order of R176, and the count
of R177.
-/

namespace Sys2Proof.Machine

/-- PACKET_ACCEPTED (R178, R235): the half writes `tx_buffer_status` and acknowledges ackID `p0`. -/
def execPacketAccepted (p0 p1 : Field5) (s1 cmd : Field3) (crc : Field5) (s : State) :
    Host.Outcome State Fault Refusal :=
  deliverByStype0 ⟨stype0Acc, p0, p1, s1, cmd, crc⟩ (acceptedHalf p0 p1) s

/-- PACKET_RETRY (R179, R236): the half writes `tx_buffer_status` and retries ackID `p0`. -/
def execPacketRetry (p0 p1 : Field5) (s1 cmd : Field3) (crc : Field5) (s : State) :
    Host.Outcome State Fault Refusal :=
  deliverByStype0 ⟨stype0Retry, p0, p1, s1, cmd, crc⟩ (retryHalf p0 p1) s

/-- PACKET_NOT_ACCEPTED (R180, R237): the half takes `p1` as the cause. -/
def execPacketNotAccepted (p0 p1 : Field5) (s1 cmd : Field3) (crc : Field5) (s : State) :
    Host.Outcome State Fault Refusal :=
  deliverByStype0 ⟨stype0Nacc, p0, p1, s1, cmd, crc⟩ (notAcceptedHalf p1) s

/-- STATUS (R181): the half writes `tx_buffer_status` and may take the receiver to LINK_INITIALIZED. -/
def execStatus (p0 p1 : Field5) (s1 cmd : Field3) (crc : Field5) (s : State) :
    Host.Outcome State Fault Refusal :=
  deliverByStype0 ⟨stype0Status, p0, p1, s1, cmd, crc⟩ (statusHalf p0 p1) s

/-- The code 5, LINK_RESPONSE with the default `STYPE0_LINK_RESPONSE` (R182, R238). -/
def execLinkResponse (p0 p1 : Field5) (s1 cmd : Field3) (crc : Field5) (s : State) :
    Host.Outcome State Fault Refusal :=
  deliverByStype0 ⟨5#3, p0, p1, s1, cmd, crc⟩ (linkResponseHalf 5#3 p0) s

/-- The code 3, reserved (R93, R177) unless the parameter `STYPE0_LINK_RESPONSE` names it. -/
def execStype0Reserved3 (p0 p1 : Field5) (s1 cmd : Field3) (crc : Field5) (s : State) :
    Host.Outcome State Fault Refusal :=
  deliverByStype0 ⟨3#3, p0, p1, s1, cmd, crc⟩ (linkResponseHalf 3#3 p0) s

/-- The code 6, reserved (R93, R177) unless the parameter `STYPE0_LINK_RESPONSE` names it. -/
def execStype0Reserved6 (p0 p1 : Field5) (s1 cmd : Field3) (crc : Field5) (s : State) :
    Host.Outcome State Fault Refusal :=
  deliverByStype0 ⟨6#3, p0, p1, s1, cmd, crc⟩ (linkResponseHalf 6#3 p0) s

/-- The code 7, reserved (R93, R177) unless the parameter `STYPE0_LINK_RESPONSE` names it. -/
def execStype0Reserved7 (p0 p1 : Field5) (s1 cmd : Field3) (crc : Field5) (s : State) :
    Host.Outcome State Fault Refusal :=
  deliverByStype0 ⟨7#3, p0, p1, s1, cmd, crc⟩ (linkResponseHalf 7#3 p0) s

end Sys2Proof.Machine
end

