-- ==== Sys2Proof/Machine/ControlStype1.lean ====
section
/-!
DEFINITION. The delivery of a control symbol, read by its stype1 code (R87) and, for a LINK_REQUEST, its cmd (R88), one
meaning per row of format control-stype1. Each handles the whole symbol, as in ControlStype0.lean.
-/

namespace Sys2Proof.Machine

/-- START_OF_PACKET (R184, R90): the stype0 half is ignored, `p0` is the packet's ackID and `p1` the buf_status. -/
def execStartOfPacket (s0 : Field3) (p0 p1 : Field5) (cmd : Field3) (crc : Field5) (s : State) :
    Host.Outcome State Fault Refusal :=
  deliverByStype1 ⟨s0, p0, p1, stype1Sop, cmd, crc⟩ (onSop p0) s

/-- STOMP (R185). -/
def execStomp (s0 : Field3) (p0 p1 : Field5) (cmd : Field3) (crc : Field5) (s : State) :
    Host.Outcome State Fault Refusal :=
  deliverByStype1 ⟨s0, p0, p1, stype1Stomp, cmd, crc⟩ (fun s => .ok (onStomp s)) s

/-- END_OF_PACKET (R186). -/
def execEndOfPacket (s0 : Field3) (p0 p1 : Field5) (cmd : Field3) (crc : Field5) (s : State) :
    Host.Outcome State Fault Refusal :=
  deliverByStype1 ⟨s0, p0, p1, stype1Eop, cmd, crc⟩ onEop s

/-- RESTART_FROM_RETRY (R187). -/
def execRestartFromRetry (s0 : Field3) (p0 p1 : Field5) (cmd : Field3) (crc : Field5) (s : State) :
    Host.Outcome State Fault Refusal :=
  deliverByStype1 ⟨s0, p0, p1, stype1Rfr, cmd, crc⟩ (fun s => .ok (onRestartFromRetry s)) s

/-- MULTICAST_EVENT (R189): the half has no link-layer effect. -/
def execMulticastEvent (s0 : Field3) (p0 p1 : Field5) (cmd : Field3) (crc : Field5) (s : State) :
    Host.Outcome State Fault Refusal :=
  deliverByStype1 ⟨s0, p0, p1, stype1Mce, cmd, crc⟩ .ok s

/-- NOP (R190): the half has no effect. -/
def execNop (s0 : Field3) (p0 p1 : Field5) (cmd : Field3) (crc : Field5) (s : State) :
    Host.Outcome State Fault Refusal :=
  deliverByStype1 ⟨s0, p0, p1, stype1Nop, cmd, crc⟩ .ok s

/-- LINK_REQUEST with cmd 4, input-status with the default `LREQ_INPUT_STATUS` (R188, R88). -/
def execLinkRequestInputStatus (s0 : Field3) (p0 p1 : Field5) (crc : Field5) (s : State) :
    Host.Outcome State Fault Refusal :=
  deliverByStype1 ⟨s0, p0, p1, stype1Lreq, 4#3, crc⟩ (fun s => .ok (linkRequestHalf 4#3 s)) s

/-- LINK_REQUEST with cmd 0: unsupported (R93, R177) unless the parameter `LREQ_INPUT_STATUS` names it (R88). -/
def execLinkRequestCmd0 (s0 : Field3) (p0 p1 : Field5) (crc : Field5) (s : State) :
    Host.Outcome State Fault Refusal :=
  deliverByStype1 ⟨s0, p0, p1, stype1Lreq, 0#3, crc⟩ (fun s => .ok (linkRequestHalf 0#3 s)) s

/-- LINK_REQUEST with cmd 1: unsupported (R93, R177) unless the parameter `LREQ_INPUT_STATUS` names it (R88). -/
def execLinkRequestCmd1 (s0 : Field3) (p0 p1 : Field5) (crc : Field5) (s : State) :
    Host.Outcome State Fault Refusal :=
  deliverByStype1 ⟨s0, p0, p1, stype1Lreq, 1#3, crc⟩ (fun s => .ok (linkRequestHalf 1#3 s)) s

/-- LINK_REQUEST with cmd 2: unsupported (R93, R177) unless the parameter `LREQ_INPUT_STATUS` names it (R88). -/
def execLinkRequestCmd2 (s0 : Field3) (p0 p1 : Field5) (crc : Field5) (s : State) :
    Host.Outcome State Fault Refusal :=
  deliverByStype1 ⟨s0, p0, p1, stype1Lreq, 2#3, crc⟩ (fun s => .ok (linkRequestHalf 2#3 s)) s

/-- LINK_REQUEST with cmd 3: unsupported (R93, R177) unless the parameter `LREQ_INPUT_STATUS` names it (R88). -/
def execLinkRequestCmd3 (s0 : Field3) (p0 p1 : Field5) (crc : Field5) (s : State) :
    Host.Outcome State Fault Refusal :=
  deliverByStype1 ⟨s0, p0, p1, stype1Lreq, 3#3, crc⟩ (fun s => .ok (linkRequestHalf 3#3 s)) s

/-- LINK_REQUEST with cmd 5: unsupported (R93, R177) unless the parameter `LREQ_INPUT_STATUS` names it (R88). -/
def execLinkRequestCmd5 (s0 : Field3) (p0 p1 : Field5) (crc : Field5) (s : State) :
    Host.Outcome State Fault Refusal :=
  deliverByStype1 ⟨s0, p0, p1, stype1Lreq, 5#3, crc⟩ (fun s => .ok (linkRequestHalf 5#3 s)) s

/-- LINK_REQUEST with cmd 6: unsupported (R93, R177) unless the parameter `LREQ_INPUT_STATUS` names it (R88). -/
def execLinkRequestCmd6 (s0 : Field3) (p0 p1 : Field5) (crc : Field5) (s : State) :
    Host.Outcome State Fault Refusal :=
  deliverByStype1 ⟨s0, p0, p1, stype1Lreq, 6#3, crc⟩ (fun s => .ok (linkRequestHalf 6#3 s)) s

/-- LINK_REQUEST with cmd 7: unsupported (R93, R177) unless the parameter `LREQ_INPUT_STATUS` names it (R88). -/
def execLinkRequestCmd7 (s0 : Field3) (p0 p1 : Field5) (crc : Field5) (s : State) :
    Host.Outcome State Fault Refusal :=
  deliverByStype1 ⟨s0, p0, p1, stype1Lreq, 7#3, crc⟩ (fun s => .ok (linkRequestHalf 7#3 s)) s

/-- stype1 6, reserved (R191): counted as unsupported, without other effect. -/
def execStype1Reserved6 (s0 : Field3) (p0 p1 : Field5) (cmd : Field3) (crc : Field5) (s : State) :
    Host.Outcome State Fault Refusal :=
  deliverByStype1 ⟨s0, p0, p1, stype1Reserved, cmd, crc⟩ .ok s

end Sys2Proof.Machine
end

