-- ==== Sys2Proof/Machine/Transmitter.lean ====
section
/-!
DEFINITION. The transmitter (43_transmitter.md section 1): which symbol a PORT_GET_SYMBOL emits, and what it writes.
-/

namespace Sys2Proof.Machine

/-- `mailbox_symbol()` (R223), for a request that waits. -/
def mailboxSymbol (s : State) : State × Symbol :=
  let s' : State := { s with tx := { s.tx with mailbox := .noRequest, mailboxParam := 0#5 } }
  match s.tx.mailbox with
  | .sendPacketRetry => emitWithBs stype0Retry s.rx.ackid stype1Nop 0#3 s'
  | .sendPacketNotAccepted =>
    (s', .control (controlSymbolOf stype0Nacc s.rx.ackid s.tx.mailboxParam stype1Nop 0#3))
  | .sendLinkResponse =>
    (s', .control (controlSymbolOf s.cfg.stype0LinkResponse s.rx.ackid s.tx.mailboxParam stype1Nop 0#3))
  | .noRequest => (s, .idle)

/-- `ack_symbol()` (R224). -/
def ackSymbol (s : State) : State × Symbol :=
  emitWithBs stype0Acc s.rx.ackidAcked stype1Nop 0#3
    { s with rx := { s.rx with ackidAcked := s.rx.ackidAcked + 1#5 } }

/-- The LINK_REQUEST(input-status) of R225 to R227: the head of the window is stamped and the symbol is emitted. -/
def emitLinkRequest (s : State) : State × Symbol :=
  emitSt s.rx.ackid stype1Lreq s.cfg.lreqInputStatus (stampFrame s.tx.ackid s)

/-- `timeout_link_request()` (R225). -/
def timeoutLinkRequest (s : State) : State × Symbol :=
  let s' := inc .outboundErrorTimeout s
  emitLinkRequest
    { s' with tx := { abortFrame { s'.tx with state := .outputErrorStopped } with lrPending := false } }

/-- `repeat_link_request()` (R226). -/
def repeatLinkRequest (s : State) : State × Symbol := emitLinkRequest (inc .outboundErrorTimeout s)

/-- `error_link_request()` (R227). -/
def errorLinkRequest (s : State) : State × Symbol :=
  emitLinkRequest { s with tx := { s.tx with lrPending := false } }

/-- `restart_symbol()` (R228). -/
def restartSymbol (s : State) : State × Symbol :=
  emitSt s.rx.ackid stype1Rfr 0#3 { s with tx := { s.tx with state := .linkInitialized } }

/-- `tx_status_counter` after one more STATUS (R229). -/
def nextStatusCount (s : State) : Nat := min (s.tx.statusCounter + 1) s.cfg.nStatus

/-- `status_symbol()` (R229). -/
def statusSymbol (s : State) : State × Symbol :=
  emitSt s.rx.ackid stype1Nop 0#3
    { s with
      tx := { s.tx with
        statusCounter := nextStatusCount s
        state :=
          if s.rx.statusReceived = true ∧ s.cfg.nStatus ≤ nextStatusCount s then .linkInitialized
          else s.tx.state } }

/-- `sop_symbol()` (R230). -/
def sopSymbol (s : State) : State × Symbol :=
  emitSt s.tx.ackidWindow stype1Sop 0#3 { s with tx := { s.tx with frameState := .body, counter := 0 } }

/-- `eop_symbol()` (R232). -/
def eopSymbol (s : State) : Except Fault (State × Symbol) :=
  match windowAdvance s.txq with
  | .error e => .error e
  | .ok q =>
    let s' := stampFrame s.tx.ackidWindow s
    .ok (emitSt s.rx.ackid stype1Eop 0#3
      { s' with
        txq := q
        tx := { s'.tx with ackidWindow := s'.tx.ackidWindow + 1#5, frameState := .start, counter := 0 } })

/-- `data_or_eop_symbol()` (R231). -/
def dataOrEopSymbol (s : State) : Except Fault (State × Symbol) :=
  match windowPacket s.cfg s.txq s.txbuf with
  | .error e => .error e
  | .ok pkt =>
    match pkt[s.tx.counter]? with
    | some x => .ok ({ s with tx := { s.tx with counter := s.tx.counter + 1 } }, .data x)
    | none => eopSymbol s

/-- `bufstat_symbol()` (R233). -/
def bufstatSymbol (s : State) : State × Symbol := emitSt s.rx.ackid stype1Nop 0#3 s

/-- A buffer-status update is due (R233). -/
def bufstatDue (s : State) : Bool :=
  (s.tx.state == .linkInitialized || s.tx.state == .outputErrorStopped) && bufStatus s != s.tx.bufstatSent

/-- `get_symbol()` (R220): the first case that applies decides the symbol. -/
def getSymbol (s : State) : Except Fault (State × Symbol) :=
  if s.tx.state = .uninitialized then .ok (s, .idle)
  else if s.tx.mailbox ≠ .noRequest then .ok (mailboxSymbol s)
  else if ackPending s then .ok (ackSymbol s)
  else if s.tx.state = .linkInitialized ∧ 0 < s.txq.windowSize ∧ timedOut s then .ok (timeoutLinkRequest s)
  else if s.tx.state = .outputErrorStopped ∧ s.tx.lrPending = false ∧ timedOut s then .ok (repeatLinkRequest s)
  else if s.tx.state = .outputErrorStopped ∧ s.tx.lrPending = true then .ok (errorLinkRequest s)
  else if s.tx.state = .outputRetryStopped then .ok (restartSymbol s)
  else if s.tx.state = .portInitialized then .ok (statusSymbol s)
  else if s.tx.state = .linkInitialized ∧ s.tx.frameState = .start ∧ canStart s then .ok (sopSymbol s)
  else if s.tx.state = .linkInitialized ∧ s.tx.frameState = .body then dataOrEopSymbol s
  else if bufstatDue s then .ok (bufstatSymbol s)
  else .ok (s, .idle)

end Sys2Proof.Machine
end

