-- ==== Sys2Proof/Machine/HostOps.lean ====
section
/-!
DEFINITION. The host operations (44_host_interface.md), one meaning per row of format host-op.
-/

namespace Sys2Proof.Machine

/-- OPEN (R270): the OPEN column of R50. The buffers keep their contents (R330). -/
def execOpenOp (s : State) : Host.Outcome State Fault Refusal :=
  finish (.ok
    { s with
      rx := rxCleared .uninitialized
      tx := txCleared .uninitialized
      port := { time := 0#32, timeout := portTimeoutReset }
      rxq := queueInit s.cfg.rxWords s.cfg.slotWords
      txq := queueInit s.cfg.txWords s.cfg.slotWords
      counter := Vector.replicate 20 0#32 })

/-- PORT_SET_TIME (R272). -/
def execPortSetTime (t : Word) (s : State) : Host.Outcome State Fault Refusal :=
  finish (.ok { s with port := { s.port with time := t } })

/-- PORT_SET_TIMEOUT (R273). -/
def execPortSetTimeout (dt : Word) (s : State) : Host.Outcome State Fault Refusal :=
  finish (.ok { s with port := { s.port with timeout := dt } })

/-- PORT_SET_STATUS(1) (R274): link initialization, from UNINITIALIZED only. -/
def linkUp (s : State) : State :=
  if s.rx.state = .uninitialized then
    { s with
      rx := rxCleared .portInitialized
      tx := txCleared .portInitialized
      txq := windowReset s.txq }
  else s

/-- PORT_SET_STATUS(0) (R275): link drop. -/
def linkDrop (s : State) : State :=
  { s with
    rx := { s.rx with state := .uninitialized, receiving := false, counter := 0 }
    tx := abortFrame { s.tx with
      state := .uninitialized, mailbox := .noRequest, mailboxParam := 0#5, lrPending := false } }

/-- PORT_SET_STATUS (R274, R275). -/
def execPortSetStatus (arg : Word) (s : State) : Host.Outcome State Fault Refusal :=
  finish (.ok (if arg = 0#32 then linkDrop s else linkUp s))

/-- PORT_ADD_SYMBOL (R278). -/
def execPortAddSymbol (sym : Symbol) (s : State) : Host.Outcome State Fault Refusal :=
  finish (addSymbol sym s)

/-- PORT_GET_SYMBOL (R279): the symbol it emits is in the response. -/
def execPortGetSymbol (s : State) : Host.Outcome State Fault Refusal :=
  match getSymbol s with
  | .error e => .fault e
  | .ok (s', sym) => respond { Response.plain with sym := sym } s'

/-- SET_OUTBOUND_PACKET (R276): refused with result 0 on a full queue or a length outside 1 to M, and accepted with
result 1 otherwise. -/
def execSetOutboundPacket (pkt : Packet) (s : State) : Host.Outcome State Fault Refusal :=
  if s.txq.available = 0 ∨ pkt.length < 1 ∨ s.cfg.m < pkt.length then finishResult 0#32 s
  else
    match pushBack s.cfg s.txq s.txbuf pkt with
    | .error e => .fault e
    | .ok (q, mem) => finishResult 1#32 { s with txq := q, txbuf := mem }

/-- GET_INBOUND_PACKET (R277): length 0 and no packet when rxq is empty. -/
def execGetInboundPacket (s : State) : Host.Outcome State Fault Refusal :=
  if queueUsed s.rxq = 0 then finishResult 0#32 s
  else
    match frontPacket s.cfg s.rxq s.rxbuf with
    | .error e => .fault e
    | .ok pkt =>
      match popFront s.rxq with
      | .error e => .fault e
      | .ok q =>
        respond { Response.plain with result := BitVec.ofNat 32 pkt.length, pkt := pkt } { s with rxq := q }

/-- GET_INBOUND_QUEUE_LENGTH (R280). -/
def execGetInboundQueueLength (s : State) : Host.Outcome State Fault Refusal :=
  finishResult (BitVec.ofNat 32 (queueUsed s.rxq)) s

/-- GET_INBOUND_QUEUE_AVAILABLE (R281). -/
def execGetInboundQueueAvailable (s : State) : Host.Outcome State Fault Refusal :=
  finishResult (BitVec.ofNat 32 (queueAvailable s.rxq)) s

/-- GET_OUTBOUND_QUEUE_LENGTH (R282). -/
def execGetOutboundQueueLength (s : State) : Host.Outcome State Fault Refusal :=
  finishResult (BitVec.ofNat 32 (queueUsed s.txq)) s

/-- GET_OUTBOUND_QUEUE_AVAILABLE (R283). -/
def execGetOutboundQueueAvailable (s : State) : Host.Outcome State Fault Refusal :=
  finishResult (BitVec.ofNat 32 (queueAvailable s.txq)) s

/-- `link_is_initialized` as a result word (R284, R286). -/
def linkResult (s : State) : Word := if linkIsInitialized s then 1#32 else 0#32

/-- GET_LINK_IS_INITIALIZED (R284). -/
def execGetLinkIsInitialized (s : State) : Host.Outcome State Fault Refusal :=
  finishResult (linkResult s) s

/-- GET_STATUS (R286): the deprecated alias of GET_LINK_IS_INITIALIZED. -/
def execGetStatus (s : State) : Host.Outcome State Fault Refusal :=
  finishResult (linkResult s) s

/-- GET_COUNTER (R285): 0 for an id above 19. -/
def execGetCounter (id : Word) (s : State) : Host.Outcome State Fault Refusal :=
  finishResult (if h : id.toNat < 20 then s.counter.get ⟨id.toNat, h⟩ else 0#32) s

/-- A reserved host operation code: no state change, result 0, an Idle symbol and an empty packet (R271). -/
def reservedOp (s : State) : Host.Outcome State Fault Refusal := finish (.ok s)

/-- Code 0x0F (R271). -/
def execReservedOp0F (s : State) : Host.Outcome State Fault Refusal := reservedOp s

/-- Codes 0x10 to 0x1F (R271). -/
def execReservedOp10To1F (s : State) : Host.Outcome State Fault Refusal := reservedOp s

/-- Codes 0x20 to 0x3F (R271). -/
def execReservedOp20To3F (s : State) : Host.Outcome State Fault Refusal := reservedOp s

/-- Codes 0x40 to 0x7F (R271). -/
def execReservedOp40To7F (s : State) : Host.Outcome State Fault Refusal := reservedOp s

/-- Codes 0x80 to 0xFF (R271). -/
def execReservedOp80ToFF (s : State) : Host.Outcome State Fault Refusal := reservedOp s

end Sys2Proof.Machine
end

