-- ==== Sys2Proof/Machine/Symbols.lean ====
section
/-!
DEFINITION. The delivery of one inbound symbol by its tag (R80 to R84, R170 to R176), one meaning per row of format
symbol-tag. Each ends as the PORT_ADD_SYMBOL that carries the symbol ends (R278); log entry 5.
-/

namespace Sys2Proof.Machine

/-- An Idle symbol changes nothing, in every state (R172, R81). -/
def execSymIdle (s : State) : Host.Outcome State Fault Refusal :=
  finish (.ok s)

/-- A Control symbol (R82, R175, R176). -/
def execSymControl (c : Body) (s : State) : Host.Outcome State Fault Refusal :=
  finish (whenPortUp (controlSymbol c) s)

/-- A Data symbol (R83, R174). -/
def execSymData (w : Word) (s : State) : Host.Outcome State Fault Refusal :=
  finish (whenPortUp (dataSymbol w) s)

/-- An Error symbol (R84, R173). -/
def execSymError (s : State) : Host.Outcome State Fault Refusal :=
  finish (whenPortUp (fun s => .ok (errorSymbol s)) s)

end Sys2Proof.Machine
end

