-- ==== Sys2Proof/Machine/Dispatch.lean ====
section
/-!
DEFINITION. The meaning of every instruction, one arm per constructor of Instr.
-/

namespace Sys2Proof.Machine

def exec (i : Instr) (s : State) : Host.Outcome State Fault Refusal :=
  match i with
  | .openOp => Sys2Proof.Machine.execOpenOp s
  | .portSetTime t => Sys2Proof.Machine.execPortSetTime t s
  | .portSetTimeout dt => Sys2Proof.Machine.execPortSetTimeout dt s
  | .portSetStatus arg => Sys2Proof.Machine.execPortSetStatus arg s
  | .portAddSymbol sym => Sys2Proof.Machine.execPortAddSymbol sym s
  | .portGetSymbol => Sys2Proof.Machine.execPortGetSymbol s
  | .setOutboundPacket pkt => Sys2Proof.Machine.execSetOutboundPacket pkt s
  | .getInboundPacket => Sys2Proof.Machine.execGetInboundPacket s
  | .getInboundQueueLength => Sys2Proof.Machine.execGetInboundQueueLength s
  | .getInboundQueueAvailable => Sys2Proof.Machine.execGetInboundQueueAvailable s
  | .getOutboundQueueLength => Sys2Proof.Machine.execGetOutboundQueueLength s
  | .getOutboundQueueAvailable => Sys2Proof.Machine.execGetOutboundQueueAvailable s
  | .getLinkIsInitialized => Sys2Proof.Machine.execGetLinkIsInitialized s
  | .getStatus => Sys2Proof.Machine.execGetStatus s
  | .getCounter id => Sys2Proof.Machine.execGetCounter id s
  | .reservedOp0F => Sys2Proof.Machine.execReservedOp0F s
  | .reservedOp10To1F _ => Sys2Proof.Machine.execReservedOp10To1F s
  | .reservedOp20To3F _ => Sys2Proof.Machine.execReservedOp20To3F s
  | .reservedOp40To7F _ => Sys2Proof.Machine.execReservedOp40To7F s
  | .reservedOp80ToFF _ => Sys2Proof.Machine.execReservedOp80ToFF s
  | .symIdle => Sys2Proof.Machine.execSymIdle s
  | .symControl c => Sys2Proof.Machine.execSymControl c s
  | .symData w => Sys2Proof.Machine.execSymData w s
  | .symError => Sys2Proof.Machine.execSymError s
  | .packetAccepted p0 p1 s1 cmd crc => Sys2Proof.Machine.execPacketAccepted p0 p1 s1 cmd crc s
  | .packetRetry p0 p1 s1 cmd crc => Sys2Proof.Machine.execPacketRetry p0 p1 s1 cmd crc s
  | .packetNotAccepted p0 p1 s1 cmd crc => Sys2Proof.Machine.execPacketNotAccepted p0 p1 s1 cmd crc s
  | .status p0 p1 s1 cmd crc => Sys2Proof.Machine.execStatus p0 p1 s1 cmd crc s
  | .linkResponse p0 p1 s1 cmd crc => Sys2Proof.Machine.execLinkResponse p0 p1 s1 cmd crc s
  | .stype0Reserved3 p0 p1 s1 cmd crc => Sys2Proof.Machine.execStype0Reserved3 p0 p1 s1 cmd crc s
  | .stype0Reserved6 p0 p1 s1 cmd crc => Sys2Proof.Machine.execStype0Reserved6 p0 p1 s1 cmd crc s
  | .stype0Reserved7 p0 p1 s1 cmd crc => Sys2Proof.Machine.execStype0Reserved7 p0 p1 s1 cmd crc s
  | .startOfPacket s0 p0 p1 cmd crc => Sys2Proof.Machine.execStartOfPacket s0 p0 p1 cmd crc s
  | .stomp s0 p0 p1 cmd crc => Sys2Proof.Machine.execStomp s0 p0 p1 cmd crc s
  | .endOfPacket s0 p0 p1 cmd crc => Sys2Proof.Machine.execEndOfPacket s0 p0 p1 cmd crc s
  | .restartFromRetry s0 p0 p1 cmd crc => Sys2Proof.Machine.execRestartFromRetry s0 p0 p1 cmd crc s
  | .multicastEvent s0 p0 p1 cmd crc => Sys2Proof.Machine.execMulticastEvent s0 p0 p1 cmd crc s
  | .nop s0 p0 p1 cmd crc => Sys2Proof.Machine.execNop s0 p0 p1 cmd crc s
  | .linkRequestInputStatus s0 p0 p1 crc => Sys2Proof.Machine.execLinkRequestInputStatus s0 p0 p1 crc s
  | .linkRequestCmd0 s0 p0 p1 crc => Sys2Proof.Machine.execLinkRequestCmd0 s0 p0 p1 crc s
  | .linkRequestCmd1 s0 p0 p1 crc => Sys2Proof.Machine.execLinkRequestCmd1 s0 p0 p1 crc s
  | .linkRequestCmd2 s0 p0 p1 crc => Sys2Proof.Machine.execLinkRequestCmd2 s0 p0 p1 crc s
  | .linkRequestCmd3 s0 p0 p1 crc => Sys2Proof.Machine.execLinkRequestCmd3 s0 p0 p1 crc s
  | .linkRequestCmd5 s0 p0 p1 crc => Sys2Proof.Machine.execLinkRequestCmd5 s0 p0 p1 crc s
  | .linkRequestCmd6 s0 p0 p1 crc => Sys2Proof.Machine.execLinkRequestCmd6 s0 p0 p1 crc s
  | .linkRequestCmd7 s0 p0 p1 crc => Sys2Proof.Machine.execLinkRequestCmd7 s0 p0 p1 crc s
  | .stype1Reserved6 s0 p0 p1 cmd crc => Sys2Proof.Machine.execStype1Reserved6 s0 p0 p1 cmd crc s

end Sys2Proof.Machine
end

