-- ==== Sys2Proof/Machine/Fetch.lean ====
section
/-!
DEFINITION. How the block comes to its next instruction. It fetches none from memory (R20): what plays the part of an
instruction is the next operation the host issues (R337).
-/

namespace Sys2Proof.Machine

/-- The next operation of the host, if it has issued one (R337). -/
def nextInput (s : State) : Option Input := s.pending.head?

/-- The state in which the next operation runs: it no longer waits. -/
def takeInput (s : State) : State := { s with pending := s.pending.tail }

/-- The host issues one more operation. It takes effect after every operation that already waits (R71). -/
def issueInput (x : Input) (s : State) : State := { s with pending := s.pending ++ [x] }

/-- `x` stands where the next operation is taken from, in the place of the one that stood there; where none waits, that
is the host issuing `x`. The host's interface alone uses it (log entry 1). -/
def placeInput (x : Input) (s : State) : State := { s with pending := x :: s.pending.tail }

/-- One operation, whole (R70): the next input is decoded and its instruction runs. Without an operation nothing changes
(R6: the state changes only in response to a host operation). -/
def runNext (s : State) : Host.Outcome State Fault Refusal :=
  match nextInput s with
  | none => .next s
  | some x => exec (decode x) (takeInput s)

end Sys2Proof.Machine
end

