-- ==== Sys2Proof/Machine/Step.lean ====
section
/-!
DEFINITION. One step of the block: one host operation (R6, R70).
-/

namespace Sys2Proof.Machine

/-- One host operation, or nothing when the host has issued none. -/
def step (s : State) : Host.Outcome State Fault Refusal := runNext s

/-- `s` with the operation that the opcode table numbers as `w` stored where the next step takes its operation from (log
entry 1). -/
def State.withFetchWord (s : State) (nbits w : Nat) : State :=
  match tableInput nbits w with
  | none => s
  | some x => placeInput x s

end Sys2Proof.Machine
end

