-- ==== Sys2Proof/Safety.lean ====
section
/-!
DEFINITION. What claims about whole runs are stated in: which symbol an instruction delivers, the invariants of R51 with
what makes them inductive, and the states the block can reach.
-/

namespace Sys2Proof.Machine

/-- The symbol an instruction delivers to the receiver: a PORT_ADD_SYMBOL, a symbol row or a control-symbol row. -/
def deliveredSymbol : Instr → Option Symbol
  | .portAddSymbol sym => some sym
  | .symIdle => some .idle
  | .symControl c => some (.control c)
  | .symData w => some (.data w)
  | .symError => some .error
  | .packetAccepted p0 p1 s1 cmd crc => some (.control (bodyOf ⟨0#3, p0, p1, s1, cmd, crc⟩))
  | .packetRetry p0 p1 s1 cmd crc => some (.control (bodyOf ⟨1#3, p0, p1, s1, cmd, crc⟩))
  | .packetNotAccepted p0 p1 s1 cmd crc => some (.control (bodyOf ⟨2#3, p0, p1, s1, cmd, crc⟩))
  | .status p0 p1 s1 cmd crc => some (.control (bodyOf ⟨4#3, p0, p1, s1, cmd, crc⟩))
  | .linkResponse p0 p1 s1 cmd crc => some (.control (bodyOf ⟨5#3, p0, p1, s1, cmd, crc⟩))
  | .stype0Reserved3 p0 p1 s1 cmd crc => some (.control (bodyOf ⟨3#3, p0, p1, s1, cmd, crc⟩))
  | .stype0Reserved6 p0 p1 s1 cmd crc => some (.control (bodyOf ⟨6#3, p0, p1, s1, cmd, crc⟩))
  | .stype0Reserved7 p0 p1 s1 cmd crc => some (.control (bodyOf ⟨7#3, p0, p1, s1, cmd, crc⟩))
  | .startOfPacket s0 p0 p1 cmd crc => some (.control (bodyOf ⟨s0, p0, p1, 0#3, cmd, crc⟩))
  | .stomp s0 p0 p1 cmd crc => some (.control (bodyOf ⟨s0, p0, p1, 1#3, cmd, crc⟩))
  | .endOfPacket s0 p0 p1 cmd crc => some (.control (bodyOf ⟨s0, p0, p1, 2#3, cmd, crc⟩))
  | .restartFromRetry s0 p0 p1 cmd crc => some (.control (bodyOf ⟨s0, p0, p1, 3#3, cmd, crc⟩))
  | .multicastEvent s0 p0 p1 cmd crc => some (.control (bodyOf ⟨s0, p0, p1, 5#3, cmd, crc⟩))
  | .nop s0 p0 p1 cmd crc => some (.control (bodyOf ⟨s0, p0, p1, 7#3, cmd, crc⟩))
  | .linkRequestInputStatus s0 p0 p1 crc => some (.control (bodyOf ⟨s0, p0, p1, 4#3, 4#3, crc⟩))
  | .linkRequestCmd0 s0 p0 p1 crc => some (.control (bodyOf ⟨s0, p0, p1, 4#3, 0#3, crc⟩))
  | .linkRequestCmd1 s0 p0 p1 crc => some (.control (bodyOf ⟨s0, p0, p1, 4#3, 1#3, crc⟩))
  | .linkRequestCmd2 s0 p0 p1 crc => some (.control (bodyOf ⟨s0, p0, p1, 4#3, 2#3, crc⟩))
  | .linkRequestCmd3 s0 p0 p1 crc => some (.control (bodyOf ⟨s0, p0, p1, 4#3, 3#3, crc⟩))
  | .linkRequestCmd5 s0 p0 p1 crc => some (.control (bodyOf ⟨s0, p0, p1, 4#3, 5#3, crc⟩))
  | .linkRequestCmd6 s0 p0 p1 crc => some (.control (bodyOf ⟨s0, p0, p1, 4#3, 6#3, crc⟩))
  | .linkRequestCmd7 s0 p0 p1 crc => some (.control (bodyOf ⟨s0, p0, p1, 4#3, 7#3, crc⟩))
  | .stype1Reserved6 s0 p0 p1 cmd crc => some (.control (bodyOf ⟨s0, p0, p1, 6#3, cmd, crc⟩))
  | .openOp => none
  | .portSetTime _ => none
  | .portSetTimeout _ => none
  | .portSetStatus _ => none
  | .portGetSymbol => none
  | .setOutboundPacket _ => none
  | .getInboundPacket => none
  | .getInboundQueueLength => none
  | .getInboundQueueAvailable => none
  | .getOutboundQueueLength => none
  | .getOutboundQueueAvailable => none
  | .getLinkIsInitialized => none
  | .getStatus => none
  | .getCounter _ => none
  | .reservedOp0F => none
  | .reservedOp10To1F _ => none
  | .reservedOp20To3F _ => none
  | .reservedOp40To7F _ => none
  | .reservedOp80ToFF _ => none

/-- A control symbol whose halves are processed (R171, R175): the port is up and the CRC-5 is good. -/
abbrev Heard (f : ControlFields) (s : State) : Prop :=
  s.rx.state ≠ .uninitialized ∧ crcGood (bodyOf f) = true

/-- The stype0 half of a control symbol leaves the state `u` (R176). -/
abbrev Stype0Leaves (f : ControlFields) (s u : State) : Prop := stype0Step f (stype0Code f) s = .ok u

/-- The rest of a control symbol after its stype0 half left the state `u` (R176, R177, R278): the stype1 half, the count
of unsupported symbols, the response. -/
def runStype1 (f : ControlFields) (u : State) : Host.Outcome State Fault Refusal :=
  match stype1Code f u with
  | .error e => .fault e
  | .ok v => respond Response.plain (countUnsupported f v)

/-- The end of a control symbol whose halves left the state `v`: the count of unsupported symbols and the response
(R177, R278). -/
def endSymbol (f : ControlFields) (v : State) : Host.Outcome State Fault Refusal :=
  .next { countUnsupported f v with response := Response.plain }

/-- The eight LINK_REQUEST rows of the opcode table, each with its cmd (R88). -/
def linkRequestRows (s0 : Field3) (p0 p1 : Field5) (crc : Field5) : List (Field3 × Instr) :=
  [(0#3, .linkRequestCmd0 s0 p0 p1 crc), (1#3, .linkRequestCmd1 s0 p0 p1 crc),
   (2#3, .linkRequestCmd2 s0 p0 p1 crc), (3#3, .linkRequestCmd3 s0 p0 p1 crc),
   (4#3, .linkRequestInputStatus s0 p0 p1 crc), (5#3, .linkRequestCmd5 s0 p0 p1 crc),
   (6#3, .linkRequestCmd6 s0 p0 p1 crc), (7#3, .linkRequestCmd7 s0 p0 p1 crc)]

/-- The length of the packet in slot `i`: its length word (R61), 0 where nothing has been written. -/
def packetLength (cfg : Config) (mem : Memory) (i : Nat) : Nat :=
  match bufRead mem (slotBase cfg i) with
  | some len => len.toNat
  | none => 0

/-- Slot `i` holds a packet: 1 to M words, all of them written (R61, R77). -/
abbrev SlotHolds (cfg : Config) (mem : Memory) (i : Nat) : Prop :=
  1 ≤ packetLength cfg mem i ∧ packetLength cfg mem i ≤ cfg.m ∧
    ∀ k < packetLength cfg mem i, (bufRead mem (slotBase cfg i + 1 + k)).isSome = true

/-- The words of the packet in slot `i` (R61). -/
def storedPacket (cfg : Config) (mem : Memory) (i : Nat) : Packet :=
  (List.range (packetLength cfg mem i)).map fun k => (bufRead mem (slotBase cfg i + 1 + k)).getD 0#32

/-- The packets a queue holds, oldest first (R122, R133). -/
def queuedPackets (cfg : Config) (q : Queue) (mem : Memory) : List Packet :=
  (List.range (queueUsed q)).map fun j => storedPacket cfg mem ((q.frontIndex + j) % q.size)

/-- The words staged of the packet being received (R135). -/
def stagedPacket (s : State) : Packet :=
  (List.range s.rx.counter).map fun k => (bufRead s.rxbuf (stageAddress s.cfg s.rxq k)).getD 0#32

/-- The running CRC-16 after words number `k` on of a packet (R156). -/
def crcFrom (cfg : Config) : Nat → Packet → BitVec 16 → BitVec 16
  | _, [], r => r
  | k, w :: ws, r => crcFrom cfg (k + 1) ws (crc16Word (crc16Covered cfg k w) r)

/-- The residue of a whole packet (R156): the packet is good iff it is 0. -/
def packetResidue (cfg : Config) (pkt : Packet) : BitVec 16 := crcFrom cfg 0 pkt 0xFFFF#16

/-- The registers of a queue over a buffer of `words` words: its size is that of `init` (R120), `available` is at most
`size` (R51.1), the window lies inside the occupied slots (R51.3), and the three indexes stand as R122, R51.3 and R133
say. -/
abbrev QueueOk (cfg : Config) (words : Nat) (q : Queue) : Prop :=
  q.size = min (words / cfg.slotWords) qsizeMax ∧
    q.available ≤ q.size ∧
    q.windowSize ≤ queueUsed q ∧
    (0 < q.size → q.frontIndex < q.size ∧
      q.backIndex = (q.frontIndex + queueUsed q) % q.size ∧
      q.windowIndex = (q.frontIndex + q.windowSize) % q.size) ∧
    (q.size = 0 → q.frontIndex = 0 ∧ q.backIndex = 0 ∧ q.windowIndex = 0)

/-- The buffer of a queue: in order, and every occupied slot holds a packet (R61). -/
abbrev BufferOk (cfg : Config) (q : Queue) (mem : Memory) : Prop :=
  Memory.wf mem ∧ ∀ j < queueUsed q, SlotHolds cfg mem ((q.frontIndex + j) % q.size)

/-- The receiver: a packet is received only on an initialized link with a free slot (R51.7), `rx_counter` is 0 outside a
packet and at most M (R25), the words counted so far are staged (R135), and `rx_error_cause` is one the receiver writes
(R28). -/
abbrev ReceiverOk (s : State) : Prop :=
  (s.rx.receiving = true → s.rx.state = .linkInitialized ∧ 0 < s.rxq.available) ∧
    (s.rx.receiving = false → s.rx.counter = 0) ∧
    s.rx.counter ≤ s.cfg.m ∧
    (∀ k < s.rx.counter, (bufRead s.rxbuf (stageAddress s.cfg s.rxq k)).isSome = true) ∧
    s.rx.errorCause ∈ [0#5, 1#5, 2#5, 4#5, 5#5, 31#5]

/-- The transmitter: R51.5, R51.6 and R51.8, with the bound on the window that the SOP's check leaves until its EOP
(R240), the ranges of `tx_counter` and `tx_status_counter` (R33, R34), and the empty window of OUTPUT_RETRY_STOPPED
(R235, R236). -/
abbrev TransmitterOk (s : State) : Prop :=
  s.tx.ackidWindow = s.tx.ackid + BitVec.ofNat 5 s.txq.windowSize ∧
    s.txq.windowSize ≤ 31 ∧
    (s.tx.frameState = .body →
      s.tx.state = .linkInitialized ∧ s.txq.windowSize < queueUsed s.txq ∧ s.txq.windowSize < 31) ∧
    (s.tx.frameState = .start → s.tx.counter = 0) ∧
    s.tx.counter ≤ s.cfg.m ∧
    s.tx.statusCounter ≤ s.cfg.nStatus ∧
    (s.tx.state = .outputRetryStopped → s.txq.windowSize = 0)

/-- What couples the two machines: a mailbox request waits only past initialization (R51.9), the parameter is 0 unless the
request has one (R31), a LINK_REQUEST is pending only in OUTPUT_ERROR_STOPPED (R32), and both machines are UNINITIALIZED
together (R274, R275). -/
abbrev CouplingOk (s : State) : Prop :=
  (s.tx.mailbox ≠ .noRequest → s.rx.state ≠ .uninitialized ∧ s.rx.state ≠ .portInitialized) ∧
    (s.tx.mailbox = .noRequest ∨ s.tx.mailbox = .sendPacketRetry → s.tx.mailboxParam = 0#5) ∧
    (s.tx.lrPending = true → s.tx.state = .outputErrorStopped) ∧
    (s.rx.state = .uninitialized ↔ s.tx.state = .uninitialized)

/-- The invariant of the block: R51 and what makes it inductive. -/
abbrev Inv (s : State) : Prop :=
  s.cfg.m < 2 ^ 32 ∧
    QueueOk s.cfg s.cfg.rxWords s.rxq ∧ s.rxq.windowSize = 0 ∧
    QueueOk s.cfg s.cfg.txWords s.txq ∧
    BufferOk s.cfg s.rxq s.rxbuf ∧ BufferOk s.cfg s.txq s.txbuf ∧
    ReceiverOk s ∧ TransmitterOk s ∧ CouplingOk s

/-- The states a block with parameters `cfg` reaches: power-on, then any operations the host issues, each run by a
step. -/
inductive Reachable (cfg : Config) : State → Prop where
  /-- After power-on (R330). -/
  | powerOn : Reachable cfg (State.powerOn cfg)
  /-- The host issues an operation, after those that wait (R71, R337). -/
  | issue (x : Input) (s : State) : Reachable cfg s → Reachable cfg (issueInput x s)
  /-- The block runs an operation. -/
  | step (s t : State) : Reachable cfg s → step s = .next t → Reachable cfg t

/-- A list of instructions run one after the other, stopping at the first fault or refusal. -/
def execAll : List Instr → State → Host.Outcome State Fault Refusal
  | [], s => .next s
  | i :: is, s =>
    match exec i s with
    | .next s' => execAll is s'
    | .fault e => .fault e
    | .refused r => .refused r

/-- The host issues the operations of a list, in its order. -/
def issueAll (xs : List Input) (s : State) : State := xs.foldl (fun u x => issueInput x u) s

/-- `n` steps, stopping at the first fault or refusal. -/
def steps : Nat → State → Host.Outcome State Fault Refusal
  | 0, s => .next s
  | n + 1, s =>
    match step s with
    | .next t => steps n t
    | .fault e => .fault e
    | .refused r => .refused r

/-- The symbols of `n` PORT_GET_SYMBOL operations, and the state after them. -/
def emitted : Nat → State → Option (List Symbol × State)
  | 0, s => some ([], s)
  | n + 1, s =>
    match exec .portGetSymbol s with
    | .next t => (emitted n t).map fun r => (t.response.sym :: r.1, r.2)
    | .fault _ => none
    | .refused _ => none

/-- One symbol from engine `a` to engine `b` (R323): a PORT_GET_SYMBOL of `a`, and a PORT_ADD_SYMBOL of `b` with the
symbol it returned. -/
def sendSymbol (a b : State) : Option (State × State) :=
  match exec .portGetSymbol a with
  | .next a' =>
    match exec (.portAddSymbol a'.response.sym) b with
    | .next b' => some (a', b')
    | .fault _ => none
    | .refused _ => none
  | .fault _ => none
  | .refused _ => none

end Sys2Proof.Machine
end

