-- ==== Sys2Proof/Certificates/Slice0/Obligations.lean ====
section
/-!
DEFINITION. The statements for the provers. Each says what the spec's rules, named in its docstring, say of the model.
-/

section

open Sys2Proof Sys2Proof.Machine

/-! ### Encodings -/

/-- Decode and encode agree on every well-formed instruction (30_encoding.md). -/
def Obligations.EncodedInstructionDecodesBack : Prop :=
  ∀ i : Instr, WellFormed i = true → decode (encode i) = i

/-- Every input decodes to a well-formed instruction, of the opcode table's row whose match the input's bits have under
the row's mask, and a control symbol body is encoded back bit for bit, whichever half it is read by (R85 to R88, R98). -/
def Obligations.DecodedInputMatchesItsRow : Prop :=
  (∀ x : Input, WellFormed (decode x) = true ∧ rowMatches (opcodeRow (decode x)) x = true) ∧
    ∀ c : Body, encode (decode (.controlByStype0 c)) = .controlByStype0 c ∧
      encode (decode (.controlByStype1 c)) = .controlByStype1 c

/-- R153: the fields of a valid symbol build it again, and the fields of a built symbol are the ones it was built of. -/
def Obligations.ControlSymbolFieldsRoundTrip : Prop :=
  (∀ c : Body, crcGood c = true →
    controlSymbolOf (fieldsOf c).stype0 (fieldsOf c).param0 (fieldsOf c).param1 (fieldsOf c).stype1
      (fieldsOf c).cmd = c) ∧
    ∀ (s0 : Field3) (p0 p1 : Field5) (s1 cmd : Field3),
      ∃ crc : Field5, fieldsOf (controlSymbolOf s0 p0 p1 s1 cmd) = ⟨s0, p0, p1, s1, cmd, crc⟩ ∧
        crcGood (controlSymbolOf s0 p0 p1 s1 cmd) = true

/-- R150, R154: the CRC-5 is the bitwise algorithm of the rule, with its two examples; every flip of one bit of a valid
control symbol makes it invalid; the flip of body bit `j` changes the CRC by the syndrome the rule lists; the flip of bits
5 and 20 together is not detected. -/
def Obligations.SingleBitErrorsAreDetected : Prop :=
  (∀ v : BitVec 19, crc5 v = (List.range 19).foldl (fun (r : Field5) (k : Nat) =>
      if r.getLsbD 4 = v.getLsbD (18 - k) then r <<< 1 else (r <<< 1) ^^^ 0x15#5) 0x1F#5) ∧
    crc5 0#19 = 0x07#5 ∧ crc5 0x407F8#19 = 0x1D#5 ∧ controlSymbolOf 4#3 0#5 31#5 7#3 0#3 = 0x80FF1D#24 ∧
    (∀ (c : Body) (j : Nat), crcGood c = true → j < 24 →
    crcGood (c ^^^ (1#24 <<< j)) = false) ∧
    (∀ (c : Body) (j : Nat), j < 19 →
      crc5 (crcCovered (c ^^^ (1#24 <<< (j + 5)))) ^^^ crc5 (crcCovered c) =
        [0x15#5, 0x1F#5, 0x0B#5, 0x16#5, 0x19#5, 0x07#5, 0x0E#5, 0x1C#5, 0x0D#5, 0x1A#5, 0x01#5, 0x02#5, 0x04#5,
          0x08#5, 0x10#5, 0x15#5, 0x1F#5, 0x0B#5, 0x16#5].getD j 0#5) ∧
    ∀ c : Body, crcGood c = true → crcGood (c ^^^ 0x100020#24) = true

/-- R155, R156, R158: the CRC-16 is the bitwise algorithm of the rule, with the values the rules work out. The half word
that leaves residue 0 is the CRC-16 of the bits before it and no other, in the upper half of a word with a zero lower half
as in the lower half after 16 more bits; and zero words keep a residue that is 0, and no other ever becomes 0 under
them. The same of whole packets, where the mask covers every bit. -/
def Obligations.AppendedCrcLeavesNoResidue : Prop :=
  (∀ (w : Word) (r : BitVec 16), crc16Word w r = (List.range 32).foldl (fun (q : BitVec 16) (k : Nat) =>
      if q.getLsbD 15 = w.getLsbD (31 - k) then q <<< 1 else (q <<< 1) ^^^ 0x1021#16) r) ∧
    (crc16Word 0x00010002#32 0xFFFF#16 = 0x93B2#16 ∧ crc16Word 0x00000000#32 0xFFFF#16 = 0x84C0#16 ∧
      crc16Word 0xAABBCCDD#32 0x93B2#16 = 0x08E6#16 ∧ crc16Word 0x08E60000#32 0x08E6#16 = 0#16) ∧
    (∀ x r : BitVec 16, crc16Word (x ++ 0#16) r = 0#16 ↔ x = r) ∧
    (∀ x h r : BitVec 16, crc16Word (h ++ x) r = 0#16 ↔ x = (bitsMsbFirst h).foldl crc16Bit r) ∧
    (∀ (n : Nat) (r : BitVec 16), (List.replicate n 0#32).foldl (fun q w => crc16Word w q) r = 0#16 ↔ r = 0#16) ∧
    ∀ (cfg : Config) (pkt : Packet) (x : BitVec 16) (n : Nat), cfg.crc16FirstMask = 0xFFFFFFFF#32 →
      (packetResidue cfg (pkt ++ (x ++ 0#16) :: List.replicate n 0#32) = 0#16 ↔ x = packetResidue cfg pkt)

/-- Bodies and codes written out in 95_test_vectors.md decode to the instructions they stand for. -/
def Obligations.SpecWordsDecode : Prop :=
  decode (.controlByStype0 0x801705#24) = .status 0#5 2#5 7#3 0#3 0x05#5 ∧
    decode (.controlByStype0 0x05F70F#24) = .packetAccepted 5#5 30#5 7#3 0#3 0x0F#5 ∧
    decode (.controlByStype0 0xA92F17#24) = .linkResponse 9#5 5#5 7#3 0#3 0x17#5 ∧
    decode (.controlByStype1 0x83100B#24) = .startOfPacket 4#3 3#5 2#5 0#3 0x0B#5 ∧
    decode (.controlByStype1 0x801481#24) = .linkRequestInputStatus 4#3 0#5 2#5 0x01#5 ∧
    decode (.controlByStype1 0x80FC78#24) = .linkRequestCmd3 4#3 0#5 31#5 0x18#5 ∧
    decode (.symbol 2#2 0xAABBCCDD#32) = .symData 0xAABBCCDD#32 ∧
    decode (.request ⟨0x0E#8, 8#32, 0#2, 0#32, []⟩) = .getCounter 8#32

/-- R97, R81, R82, R84: request fields that an operation does not use are ignored, and so are the payload of an Idle or
Error symbol and bits 31:24 of the payload of a Control symbol. -/
def Obligations.UnusedRequestFieldsIgnored : Prop :=
  ∀ r r' : Request, r'.op = r.op →
    (r.op ∈ [0x01#8, 0x02#8, 0x03#8, 0x0E#8] → r'.arg = r.arg) →
    (r.op = 0x04#8 → r'.tag = r.tag ∧
      (r.tag = 1#2 → r'.payload.extractLsb' 0 24 = r.payload.extractLsb' 0 24) ∧
      (r.tag = 2#2 → r'.payload = r.payload)) →
    (r.op = 0x06#8 → r'.pkt = r.pkt) →
    decode (.request r') = decode (.request r)

/-! ### The machine as a whole -/

/-- A step runs the decoded instruction of the next pending operation, which no longer waits; with nothing pending it
changes nothing (R6, R337; log entry 1). An operation that the host issues waits behind those that wait already (R71). A
word of the opcode table that is stored to run next is the next to run, in the place of the operation that stood there. -/
def Obligations.StepRunsDecodedOperation : Prop :=
  (∀ (x : Input) (rest : List Input) (s : State), s.pending = x :: rest →
    step s = exec (decode x) { s with pending := rest }) ∧
    (∀ s : State, s.pending = [] → step s = .next s) ∧
    (∀ (x : Input) (s : State), issueInput x s = { s with pending := s.pending ++ [x] }) ∧
    ∀ (nbits w : Nat) (i : Instr) (s : State), decodeTableWord nbits w = some i →
      step (s.withFetchWord nbits w) = exec i { s with pending := s.pending.tail }

/-- The invariant holds after power-on (R330, R51). -/
def Obligations.PowerOnMeetsInvariant : Prop :=
  (∀ cfg : Config, cfg.m < 2 ^ 32 → Inv (State.powerOn cfg)) ∧ Inv State.reset

/-- Every step keeps the invariant (R51, and what makes it inductive). -/
def Obligations.StepKeepsInvariant : Prop :=
  ∀ s t : State, Inv s → step s = .next t → Inv t

/-- From every state with the invariant, every instruction and every step completes: no fault and no refusal is reached
(R62, R131, R321). -/
def Obligations.EveryInstructionCompletes : Prop :=
  (∀ (i : Instr) (s : State), Inv s → ∃ t, exec i s = .next t) ∧ ∀ s : State, Inv s → ∃ t, step s = .next t

/-- R51, all nine items, in every reachable state, for M below 2^32 (log entry 3). -/
def Obligations.ReachableStatesMeetR51 : Prop :=
  ∀ (cfg : Config) (s : State), cfg.m < 2 ^ 32 → Reachable cfg s →
    (s.rxq.available + queueUsed s.rxq = s.rxq.size ∧ s.txq.available + queueUsed s.txq = s.txq.size ∧
      s.rxq.available ≤ s.rxq.size ∧ s.txq.available ≤ s.txq.size) ∧
    (s.tx.ackid.toNat ≤ 31 ∧ s.tx.ackidWindow.toNat ≤ 31 ∧ s.rx.ackid.toNat ≤ 31 ∧ s.rx.ackidAcked.toNat ≤ 31) ∧
    (s.txq.windowSize ≤ queueUsed s.txq ∧
      (0 < s.txq.size → s.txq.windowIndex = (s.txq.frontIndex + s.txq.windowSize) % s.txq.size)) ∧
    (s.rxq.windowSize = 0 ∧ s.rxq.windowIndex = s.rxq.frontIndex) ∧
    s.tx.ackidWindow = s.tx.ackid + BitVec.ofNat 5 s.txq.windowSize ∧
    s.txq.windowSize ≤ 31 ∧
    (s.rx.receiving = true → s.rx.state = .linkInitialized ∧ 0 < s.rxq.available) ∧
    (s.tx.frameState = .body → s.tx.state = .linkInitialized ∧ s.txq.windowSize < queueUsed s.txq) ∧
    (s.tx.mailbox ≠ .noRequest → s.rx.state ≠ .uninitialized ∧ s.rx.state ≠ .portInitialized)

/-- No instruction writes the parameters, or the list of operations still to run (R7; log entries 1 and 2); and so the
operations that the host issues take effect in the order it issues them, each in the state that the ones before it left
(R71). -/
def Obligations.ParametersAreNeverWritten : Prop :=
  (∀ (i : Instr) (s t : State), exec i s = .next t → t.cfg = s.cfg ∧ t.pending = s.pending) ∧
    ∀ (xs : List Input) (s : State), s.pending = [] →
      steps xs.length (issueAll xs s) = execAll (xs.map decode) s

/-- A symbol row or a control-symbol row does what the PORT_ADD_SYMBOL that carries its symbol does (R15, R170, R278; log
entry 5). -/
def Obligations.SymbolRowIsPortAddSymbol : Prop :=
  ∀ (i : Instr) (sym : Symbol) (s : State), deliveredSymbol i = some sym →
    exec i s = exec (.portAddSymbol sym) s

/-- R304: the events by which the receiver leaves a stopped state, and where each leads. -/
def Obligations.ReceiverLeavesStoppedStatesOnlyBy : Prop :=
  ∀ (i : Instr) (s t : State), exec i s = .next t → t.rx.state ≠ s.rx.state →
    (s.rx.state = .inputErrorStopped ∨ s.rx.state = .inputRetryStopped) →
    ((i = .openOp ∨ i = .portSetStatus 0#32) ∧ t.rx.state = .uninitialized) ∨
    (∃ f : ControlFields, deliveredSymbol i = some (.control (bodyOf f)) ∧ crcGood (bodyOf f) = true ∧
      f.stype1 = 4#3 ∧ f.cmd = s.cfg.lreqInputStatus ∧ t.rx.state = .linkInitialized ∧
      t.tx.mailbox = .sendLinkResponse ∧ t.rx.ackidAcked = t.rx.ackid ∧ t.rx.receiving = false ∧
      t.tx.mailboxParam =
        (if s.rx.state = .inputErrorStopped then s.cfg.psErrorStopped else s.cfg.psRetryStopped)) ∨
    (s.rx.state = .inputRetryStopped ∧
      ((∃ f : ControlFields, deliveredSymbol i = some (.control (bodyOf f)) ∧ crcGood (bodyOf f) = true ∧
          f.stype1 = 3#3 ∧ t.rx.state = .linkInitialized) ∨
        ((deliveredSymbol i = some .error ∨
            ∃ c : Body, deliveredSymbol i = some (.control c) ∧ crcGood c = false) ∧
          t.rx.state = .inputErrorStopped)))

/-- R307: the events by which the transmitter leaves a stopped state, and where each leads. `CouplingOk` is a part of the
invariant. -/
def Obligations.TransmitterLeavesStoppedStatesOnlyBy : Prop :=
  ∀ (i : Instr) (s t : State), CouplingOk s → exec i s = .next t → t.tx.state ≠ s.tx.state →
    (s.tx.state = .outputErrorStopped ∨ s.tx.state = .outputRetryStopped) →
    ((i = .openOp ∨ i = .portSetStatus 0#32) ∧ t.tx.state = .uninitialized) ∨
    (s.tx.state = .outputErrorStopped ∧ ∃ f : ControlFields,
      deliveredSymbol i = some (.control (bodyOf f)) ∧ Heard f s ∧ f.stype1 ≠ 0#3 ∧
      f.stype0 = s.cfg.stype0LinkResponse ∧ s.tx.lrPending = false ∧
      (f.param0 - s.tx.ackid).toNat ≤ s.txq.windowSize ∧
      t.tx.state = .linkInitialized ∧ t.tx.ackid = f.param0 ∧ t.tx.ackidWindow = f.param0 ∧ t.txq.windowSize = 0) ∨
    (s.tx.state = .outputRetryStopped ∧
      ((i = .portGetSymbol ∧ t.tx.state = .linkInitialized ∧
          t.response.sym = .control (controlSymbolOf 4#3 s.rx.ackid (bufStatus s) 3#3 0#3)) ∨
        ∃ f : ControlFields, deliveredSymbol i = some (.control (bodyOf f)) ∧ Heard f s ∧ f.stype1 ≠ 0#3 ∧
          (f.stype0 = 0#3 ∨ (f.stype0 = 1#3 ∧ f.param0 ≠ s.tx.ackid) ∨ f.stype0 = 2#3) ∧
          t.tx.state = .outputErrorStopped ∧ t.tx.lrPending = true))

/-- The counters are monotonic (R44): only OPEN lowers one, and it clears all twenty. -/
def Obligations.CountersNeverFall : Prop :=
  ∀ (i : Instr) (s t : State), exec i s = .next t →
    (i ≠ .openOp → ∀ c : CounterId, (counterOf s c).toNat ≤ (counterOf t c).toNat) ∧
      (i = .openOp → ∀ c : CounterId, counterOf t c = 0#32)

/-- R11: `inc` adds 1 to its counter unless it is 0xFFFFFFFF, and changes nothing else. -/
def Obligations.IncrementSaturates : Prop :=
  ∀ (c : CounterId) (s : State),
    counterOf (inc c s) c = (if counterOf s c ≠ 0xFFFFFFFF#32 then counterOf s c + 1#32 else counterOf s c) ∧
      (∀ c' : CounterId, c' ≠ c → counterOf (inc c s) c' = counterOf s c') ∧
      { inc c s with counter := s.counter } = s

/-- R238, D59, D60: the one-step retirement of the `d` packets a LINK_RESPONSE reports is `d` times `pop_front` and `d`
times `inc`, on a queue whose registers are in order. -/
def Obligations.RetirementIsRepeatedPopFront : Prop :=
  (∀ (cfg : Config) (words : Nat) (q : Queue) (d : Nat), QueueOk cfg words q → d ≤ q.windowSize →
    popFrontMany q d = (List.range d).foldl (fun r _ => r.bind popFront) (.ok q)) ∧
    ∀ (c : CounterId) (d : Nat) (s : State), incBy c d s = (inc c)^[d] s

/-- R317: no instruction but PORT_GET_SYMBOL tests a timeout: with another `port_timeout` every other one gives the same
state, but for `port_timeout` itself. -/
def Obligations.OnlyPortGetSymbolTestsTheTimeout : Prop :=
  ∀ (i : Instr) (s t : State) (dt : Word), i ≠ .portGetSymbol → exec i s = .next t →
    ∃ t', exec i { s with port := { s.port with timeout := dt } } = .next t' ∧
      { t' with port := { t'.port with timeout := t.port.timeout } } = t

/-- R63, R75: TXBUF is written by SET_OUTBOUND_PACKET only; RXBUF is written by a data symbol, or by a control symbol that
ends a packet, only. -/
def Obligations.OnlyTheirWritersChangeTheBuffers : Prop :=
  ∀ (i : Instr) (s t : State), exec i s = .next t →
    (t.txbuf ≠ s.txbuf → ∃ pkt, i = .setOutboundPacket pkt) ∧
      (t.rxbuf ≠ s.rxbuf →
        (∃ w, deliveredSymbol i = some (.data w)) ∨
          ∃ f : ControlFields, deliveredSymbol i = some (.control (bodyOf f)) ∧ Heard f s ∧
            (f.stype1 = 2#3 ∨ f.stype1 = 0#3) ∧ s.rx.receiving = true ∧ s.rx.crc = 0#16)

/-- R71, R76, R77: no instruction changes a word of a slot that holds a packet. -/
def Obligations.OccupiedSlotsKeepTheirWords : Prop :=
  ∀ (i : Instr) (s t : State), Inv s → exec i s = .next t →
    (∀ j < queueUsed s.rxq, ∀ k < s.cfg.slotWords,
      bufRead t.rxbuf (slotBase s.cfg ((s.rxq.frontIndex + j) % s.rxq.size) + k) =
        bufRead s.rxbuf (slotBase s.cfg ((s.rxq.frontIndex + j) % s.rxq.size) + k)) ∧
    ∀ j < queueUsed s.txq, ∀ k < s.cfg.slotWords,
      bufRead t.txbuf (slotBase s.cfg ((s.txq.frontIndex + j) % s.txq.size) + k) =
        bufRead s.txbuf (slotBase s.cfg ((s.txq.frontIndex + j) % s.txq.size) + k)

/-- The outbound queue is first in, first out (R67, R76, R133, R235, R238): an instruction appends the packet it enqueued,
and removes from the front only packets that an acknowledgement or a LINK_RESPONSE of the peer reports delivered. -/
def Obligations.OutboundQueueIsFirstInFirstOut : Prop :=
  ∀ (i : Instr) (s t : State), Inv s → i ≠ .openOp → exec i s = .next t →
    ∃ d ≤ s.txq.windowSize,
      (d ≠ 0 → ∃ f : ControlFields, deliveredSymbol i = some (.control (bodyOf f)) ∧ Heard f s ∧ f.stype1 ≠ 0#3 ∧
        ((f.stype0 = 0#3 ∧ f.param0 = s.tx.ackid ∧ d = 1) ∨
          (f.stype0 = s.cfg.stype0LinkResponse ∧ d = (f.param0 - s.tx.ackid).toNat))) ∧
      ((∃ pkt, i = .setOutboundPacket pkt ∧ t.response.result = 1#32 ∧
          queuedPackets t.cfg t.txq t.txbuf = queuedPackets s.cfg s.txq s.txbuf ++ [pkt]) ∨
        ((∀ pkt, i = .setOutboundPacket pkt → t.response.result = 0#32) ∧
          queuedPackets t.cfg t.txq t.txbuf = (queuedPackets s.cfg s.txq s.txbuf).drop d))

/-- The inbound queue is first in, first out (R71, R194, R277): GET_INBOUND_PACKET returns and removes its oldest packet;
an END_OF_PACKET, or an SOP that stands for one, appends the words received, and only when their CRC-16 is good. -/
def Obligations.InboundQueueIsFirstInFirstOut : Prop :=
  ∀ (i : Instr) (s t : State), Inv s → i ≠ .openOp → exec i s = .next t →
    (i = .getInboundPacket ∧ queueUsed s.rxq ≠ 0 ∧
      t.response.pkt :: queuedPackets t.cfg t.rxq t.rxbuf = queuedPackets s.cfg s.rxq s.rxbuf) ∨
    queuedPackets t.cfg t.rxq t.rxbuf = queuedPackets s.cfg s.rxq s.rxbuf ∨
    ∃ f : ControlFields, deliveredSymbol i = some (.control (bodyOf f)) ∧ Heard f s ∧
      (f.stype1 = 2#3 ∨ f.stype1 = 0#3) ∧ s.rx.receiving = true ∧ s.rx.counter ≠ 0 ∧ s.rx.crc = 0#16 ∧
      queuedPackets t.cfg t.rxq t.rxbuf = queuedPackets s.cfg s.rxq s.rxbuf ++ [stagedPacket s]

/-- R93, R177: a control symbol with a good CRC-5 is counted once if one of its halves is reserved or unsupported, and no
symbol is counted otherwise. For the default code of LINK_RESPONSE. -/
def Obligations.UnsupportedSymbolIsCountedOnce : Prop :=
  ∀ (f : ControlFields) (s t : State), s.cfg.stype0LinkResponse = 5#3 → Heard f s →
    exec (.symControl (bodyOf f)) s = .next t →
    counterOf t .inboundErrorPacketUnsupported =
      if ((f.stype0 = 3#3 ∨ f.stype0 = 6#3 ∨ f.stype0 = 7#3) ∧ f.stype1 ≠ 0#3) ∨ f.stype1 = 6#3 ∨
          (f.stype1 = 4#3 ∧ f.cmd ≠ s.cfg.lreqInputStatus) then
        saturatingAdd (counterOf s .inboundErrorPacketUnsupported) 1
      else counterOf s .inboundErrorPacketUnsupported

/-- R183: what writes `tx_buffer_status`: ACC, RETRY and STATUS whatever their stype1, and any SOP, from param1; and the
two initializations (R50). -/
def Obligations.BufferStatusIsWrittenByFourSymbols : Prop :=
  (∀ (f : ControlFields) (i : Instr) (s t : State), deliveredSymbol i = some (.control (bodyOf f)) → Heard f s →
    exec i s = .next t →
    t.tx.bufferStatus =
      if f.stype1 = 0#3 ∨ f.stype0 = 0#3 ∨ f.stype0 = 1#3 ∨ f.stype0 = 4#3 then f.param1 else s.tx.bufferStatus) ∧
    ∀ (i : Instr) (s t : State), exec i s = .next t → t.tx.bufferStatus ≠ s.tx.bufferStatus →
      (∃ f : ControlFields, deliveredSymbol i = some (.control (bodyOf f)) ∧ Heard f s) ∨
      (t.tx.bufferStatus = 0#5 ∧ (i = .openOp ∨
        ∃ arg : Word, i = .portSetStatus arg ∧ arg ≠ 0#32 ∧ s.rx.state = .uninitialized))

/-- R302, R303, R305: what the three error events write, and that they write nothing else. -/
def Obligations.ErrorEventsWriteTheirRegisters : Prop :=
  (∀ (cause : Field5) (s : State), inputError cause s =
    { s with
      rx := { s.rx with state := .inputErrorStopped, errorCause := cause, receiving := false, counter := 0 }
      tx := { s.tx with mailbox := .sendPacketNotAccepted, mailboxParam := cause } }) ∧
  (∀ s : State, inputRetry s =
    { inc .inboundRetry s with
      rx := { s.rx with state := .inputRetryStopped, receiving := false, counter := 0 }
      tx := { s.tx with mailbox := .sendPacketRetry, mailboxParam := 0#5 } }) ∧
  ∀ s : State, outputError s =
    { s with
      tx := { s.tx with state := .outputErrorStopped, lrPending := true, frameState := .start, counter := 0 } }

/-! ### Host operations -/

/-- R270 and the OPEN column of R50; power-on is the state OPEN leaves (R330). That OPEN keeps the buffer contents, which
R50 gives as any value, is the model's reading of R120 and R330 (log entry 15). -/
def Obligations.OpenInitializesEverything : Prop :=
  (∀ s : State, exec .openOp s = .next
    { rx := { state := .uninitialized, ackid := 0#5, ackidAcked := 0#5, counter := 0, crc := 0xFFFF#16,
              statusReceived := false, errorCause := 0#5, receiving := false }
      tx := { state := .uninitialized, mailbox := .noRequest, mailboxParam := 0#5, lrPending := false, counter := 0,
              statusCounter := 0, frameState := .start, frameTimeout := Vector.replicate 32 0#32, ackid := 0#5,
              ackidWindow := 0#5, bufferStatus := 0#5, bufstatSent := 0#5 }
      port := { time := 0#32, timeout := 0xFFFFFFFF#32 }
      rxq := { size := min (s.cfg.rxWords / (s.cfg.m + 1)) 255, available := min (s.cfg.rxWords / (s.cfg.m + 1)) 255,
               windowSize := 0, frontIndex := 0, windowIndex := 0, backIndex := 0 }
      txq := { size := min (s.cfg.txWords / (s.cfg.m + 1)) 255, available := min (s.cfg.txWords / (s.cfg.m + 1)) 255,
               windowSize := 0, frontIndex := 0, windowIndex := 0, backIndex := 0 }
      rxbuf := s.rxbuf
      txbuf := s.txbuf
      counter := Vector.replicate 20 0#32
      cfg := s.cfg
      pending := s.pending
      response := ⟨0#32, .idle, []⟩ }) ∧
    ∀ cfg : Config, exec .openOp (State.powerOn cfg) = .next (State.powerOn cfg)

/-- R272, R273: PORT_SET_TIME and PORT_SET_TIMEOUT write their register and nothing else. -/
def Obligations.SetTimeAndTimeoutWriteTheirRegister : Prop :=
  ∀ (v : Word) (s : State),
    exec (.portSetTime v) s = .next { s with port := { s.port with time := v }, response := ⟨0#32, .idle, []⟩ } ∧
    exec (.portSetTimeout v) s = .next { s with port := { s.port with timeout := v }, response := ⟨0#32, .idle, []⟩ }

/-- R274, R275 and the two PORT_SET_STATUS columns of R50. -/
def Obligations.SetStatusInitializesAndDrops : Prop :=
  (∀ (arg : Word) (s : State), arg ≠ 0#32 → s.rx.state = .uninitialized →
    exec (.portSetStatus arg) s = .next
      { s with
        rx := { state := .portInitialized, ackid := 0#5, ackidAcked := 0#5, counter := 0, crc := 0xFFFF#16,
                statusReceived := false, errorCause := 0#5, receiving := false }
        tx := { state := .portInitialized, mailbox := .noRequest, mailboxParam := 0#5, lrPending := false, counter := 0,
                statusCounter := 0, frameState := .start, frameTimeout := Vector.replicate 32 0#32, ackid := 0#5,
                ackidWindow := 0#5, bufferStatus := 0#5, bufstatSent := 0#5 }
        txq := { s.txq with windowIndex := s.txq.frontIndex, windowSize := 0 }
        response := ⟨0#32, .idle, []⟩ }) ∧
  (∀ (arg : Word) (s : State), arg ≠ 0#32 → s.rx.state ≠ .uninitialized →
    exec (.portSetStatus arg) s = .next { s with response := ⟨0#32, .idle, []⟩ }) ∧
  ∀ s : State, exec (.portSetStatus 0#32) s = .next
    { s with
      rx := { s.rx with state := .uninitialized, receiving := false, counter := 0 }
      tx := { s.tx with state := .uninitialized, mailbox := .noRequest, mailboxParam := 0#5, lrPending := false,
                        frameState := .start, counter := 0 }
      response := ⟨0#32, .idle, []⟩ }

/-- R271: a reserved operation code changes no state and returns result 0, an Idle symbol and an empty packet. -/
def Obligations.ReservedOperationsChangeNothing : Prop :=
  (∀ (i : Instr) (op : BitVec 8) (s : State),
    i ∈ [.reservedOp0F, .reservedOp10To1F op, .reservedOp20To3F op, .reservedOp40To7F op, .reservedOp80ToFF op] →
    exec i s = .next { s with response := ⟨0#32, .idle, []⟩ }) ∧
  ∀ (r : Request) (s : State), 0x0F ≤ r.op.toNat →
    exec (decode (.request r)) s = .next { s with response := ⟨0#32, .idle, []⟩ }

/-- R280 to R286: the queries return the value their rule names and change nothing. The ids are those of R44. -/
def Obligations.QueriesReturnTheirValue : Prop :=
  ∀ s : State,
    exec .getInboundQueueLength s = .next { s with response := ⟨BitVec.ofNat 32 (s.rxq.size - s.rxq.available), .idle, []⟩ } ∧
    exec .getInboundQueueAvailable s = .next { s with response := ⟨BitVec.ofNat 32 s.rxq.available, .idle, []⟩ } ∧
    exec .getOutboundQueueLength s = .next { s with response := ⟨BitVec.ofNat 32 (s.txq.size - s.txq.available), .idle, []⟩ } ∧
    exec .getOutboundQueueAvailable s = .next { s with response := ⟨BitVec.ofNat 32 s.txq.available, .idle, []⟩ } ∧
    (∀ i ∈ [Instr.getLinkIsInitialized, Instr.getStatus], exec i s = .next { s with response :=
      ⟨if s.rx.state = .linkInitialized ∧ s.tx.mailbox = .noRequest ∧ s.tx.state = .linkInitialized then 1#32 else 0#32,
        .idle, []⟩ }) ∧
    (∀ e ∈ ([(0, .inboundComplete), (1, .inboundRetry), (2, .inboundErrorControlCrc), (3, .inboundErrorPacketAckid),
        (4, .inboundErrorPacketCrc), (5, .inboundErrorIllegalCharacter), (6, .inboundErrorGeneral),
        (7, .inboundErrorPacketUnsupported), (8, .outboundComplete), (9, .outboundRetry),
        (10, .outboundLinkLatencyMax), (11, .outboundErrorTimeout), (12, .outboundErrorPacketAccepted),
        (13, .outboundErrorPacketRetry), (14, .partnerLinkRequest), (15, .partnerErrorControlCrc),
        (16, .partnerErrorPacketAckid), (17, .partnerErrorPacketCrc), (18, .partnerErrorIllegalCharacter),
        (19, .partnerErrorGeneral)] : List (Fin 20 × CounterId)),
      exec (.getCounter (BitVec.ofNat 32 e.1)) s = .next { s with response := ⟨s.counter.get e.1, .idle, []⟩ } ∧
        counterOf s e.2 = s.counter.get e.1) ∧
    ∀ arg : Word, 19 < arg.toNat → exec (.getCounter arg) s = .next { s with response := ⟨0#32, .idle, []⟩ }

/-- R276, R125: SET_OUTBOUND_PACKET, refused without a change or accepted into the back slot of txq. -/
def Obligations.SetOutboundPacketRefusesOrEnqueues : Prop :=
  (∀ (pkt : Packet) (s : State), s.txq.available = 0 ∨ pkt.length < 1 ∨ s.cfg.m < pkt.length →
    exec (.setOutboundPacket pkt) s = .next { s with response := ⟨0#32, .idle, []⟩ }) ∧
  ∀ (pkt : Packet) (s : State), s.txq.available ≠ 0 → 1 ≤ pkt.length → pkt.length ≤ s.cfg.m →
    s.txq.backIndex < s.txq.size → Memory.wf s.txbuf →
    ∃ mem, exec (.setOutboundPacket pkt) s = .next
        { s with
          txq := { s.txq with backIndex := (s.txq.backIndex + 1) % s.txq.size, available := s.txq.available - 1 }
          txbuf := mem
          response := ⟨1#32, .idle, []⟩ } ∧
      bufRead mem (slotBase s.cfg s.txq.backIndex) = some (BitVec.ofNat 32 pkt.length) ∧
      (∀ k < pkt.length, bufRead mem (slotBase s.cfg s.txq.backIndex + 1 + k) = pkt[k]?) ∧
      ∀ a : Nat, a < slotBase s.cfg s.txq.backIndex ∨ slotBase s.cfg s.txq.backIndex + pkt.length < a →
        bufRead mem a = bufRead s.txbuf a

/-- R277, R126, R130: GET_INBOUND_PACKET on an empty queue, and the removal of the front packet, which is returned word
for word. -/
def Obligations.GetInboundPacketReturnsTheFront : Prop :=
  (∀ s : State, queueUsed s.rxq = 0 → exec .getInboundPacket s = .next { s with response := ⟨0#32, .idle, []⟩ }) ∧
  ∀ s : State, Inv s → queueUsed s.rxq ≠ 0 →
    ∃ pkt : Packet,
      bufRead s.rxbuf (slotBase s.cfg s.rxq.frontIndex) = some (BitVec.ofNat 32 pkt.length) ∧
      1 ≤ pkt.length ∧ pkt.length ≤ s.cfg.m ∧
      (∀ k < pkt.length, bufRead s.rxbuf (slotBase s.cfg s.rxq.frontIndex + 1 + k) = pkt[k]?) ∧
      exec .getInboundPacket s = .next
        { s with
          rxq := { s.rxq with
            frontIndex := (s.rxq.frontIndex + 1) % s.rxq.size
            available := s.rxq.available + 1
            windowIndex := (s.rxq.frontIndex + 1) % s.rxq.size }
          response := ⟨BitVec.ofNat 32 pkt.length, .idle, pkt⟩ }

/-! ### Inbound symbols -/

/-- R171, R172: an UNINITIALIZED receiver ignores every symbol, and an Idle symbol changes nothing in every state. -/
def Obligations.IgnoredSymbolsChangeNothing : Prop :=
  (∀ (i : Instr) (sym : Symbol) (s : State), deliveredSymbol i = some sym → s.rx.state = .uninitialized →
    exec i s = .next { s with response := ⟨0#32, .idle, []⟩ }) ∧
  ∀ i ∈ [Instr.symIdle, Instr.portAddSymbol .idle], ∀ s : State,
    exec i s = .next { s with response := ⟨0#32, .idle, []⟩ }

/-- R173: an Error symbol. -/
def Obligations.ErrorSymbolIsCountedAndRaised : Prop :=
  ∀ i ∈ [Instr.symError, Instr.portAddSymbol .error], ∀ s : State, s.rx.state ≠ .uninitialized →
    exec i s = .next
      (if s.rx.state = .linkInitialized ∨ s.rx.state = .inputRetryStopped then
        { inputError 5#5 (inc .inboundErrorIllegalCharacter s) with response := ⟨0#32, .idle, []⟩ }
      else { inc .inboundErrorIllegalCharacter s with response := ⟨0#32, .idle, []⟩ })

/-- R174, R135, R156: a Data symbol is dropped, raises InputError(31), or is stored in the back slot of rxq and enters the
CRC-16. -/
def Obligations.DataSymbolIsStoredOrRaised : Prop :=
  ∀ (w : Word) (s : State), ∀ i ∈ [Instr.symData w, Instr.portAddSymbol (.data w)],
    (s.rx.state ≠ .linkInitialized → exec i s = .next { s with response := ⟨0#32, .idle, []⟩ }) ∧
    (s.rx.state = .linkInitialized → s.rx.receiving = false ∨ s.rx.counter = s.cfg.m →
      exec i s = .next { inputError 31#5 (inc .inboundErrorGeneral s) with response := ⟨0#32, .idle, []⟩ }) ∧
    (s.rx.state = .linkInitialized → s.rx.receiving = true → s.rx.counter ≠ s.cfg.m → Inv s →
      ∃ mem, exec i s = .next
          { s with
            rxbuf := mem
            rx := { s.rx with
              crc := crc16Word (if s.rx.counter = 0 then w &&& s.cfg.crc16FirstMask else w) s.rx.crc
              counter := s.rx.counter + 1 }
            response := ⟨0#32, .idle, []⟩ } ∧
        bufRead mem (slotBase s.cfg s.rxq.backIndex + 1 + s.rx.counter) = some w ∧
        ∀ a : Nat, a ≠ slotBase s.cfg s.rxq.backIndex + 1 + s.rx.counter → bufRead mem a = bufRead s.rxbuf a)

/-- R175: a control symbol with a bad CRC-5, whichever row it is read as: counted, and no field of it is used. -/
def Obligations.BadControlCrcIsCountedAndRaised : Prop :=
  ∀ (i : Instr) (c : Body) (s : State), deliveredSymbol i = some (.control c) → crc5 (crcCovered c) ≠ c.extractLsb' 0 5 →
    s.rx.state ≠ .uninitialized →
    exec i s = .next
      (if s.rx.state = .linkInitialized ∨ s.rx.state = .inputRetryStopped then
        { inputError 2#5 (inc .inboundErrorControlCrc s) with response := ⟨0#32, .idle, []⟩ }
      else { inc .inboundErrorControlCrc s with response := ⟨0#32, .idle, []⟩ })

/-- R176, R95: both halves of a good symbol are processed, stype0 first: a symbol that is no SOP, with a supported stype0,
does what its stype0 half with a NOP and then its stype1 half with a STATUS that repeats `tx_buffer_status` do. The STATUS
must not itself initialize the link: the receiver is past PORT_INITIALIZED, or its ackID is not `tx_ackid` (R181). For the
default code of LINK_RESPONSE. -/
def Obligations.HalvesAreProcessedInOrder : Prop :=
  ∀ (f : ControlFields) (a : Field5) (s t : State), Heard f s → f.stype1 ≠ 0#3 → f.stype0 ≠ 3#3 → f.stype0 ≠ 6#3 →
    f.stype0 ≠ 7#3 → s.cfg.stype0LinkResponse = 5#3 →
    exec (.symControl (controlSymbolOf f.stype0 f.param0 f.param1 7#3 0#3)) s = .next t →
    t.rx.state ≠ .portInitialized ∨ a ≠ t.tx.ackid →
    exec (.symControl (bodyOf f)) s =
      exec (.symControl (controlSymbolOf 4#3 a t.tx.bufferStatus f.stype1 f.cmd)) t

/-- R178, R235: PACKET_ACCEPTED that is no SOP: what its stype0 half leaves, from which its stype1 half goes on; alone,
with NOP or MULTICAST_EVENT, that is its whole effect. -/
def Obligations.PacketAcceptedRetiresTheHead : Prop :=
  ∀ (p0 p1 : Field5) (s1 cmd : Field3) (crc : Field5) (s : State),
    Heard ⟨0#3, p0, p1, s1, cmd, crc⟩ s → s1 ≠ 0#3 → s.txq.windowSize ≤ queueUsed s.txq →
    let b : State := { s with tx := { s.tx with bufferStatus := p1 } }
    let lat : Word := s.port.time - s.tx.frameTimeout.get p0.toFin
    let m : State := if (counterOf b .outboundLinkLatencyMax).toNat < lat.toNat then
      setCounter .outboundLinkLatencyMax lat b else b
    let u : State :=
      if s.tx.state ≠ .linkInitialized ∧ s.tx.state ≠ .outputRetryStopped then b
      else if p0 = s.tx.ackid ∧ 0 < s.txq.windowSize then
        inc .outboundComplete { m with
          tx := { b.tx with ackid := s.tx.ackid + 1#5 }
          txq := { s.txq with
            frontIndex := (s.txq.frontIndex + 1) % s.txq.size
            available := s.txq.available + 1
            windowSize := s.txq.windowSize - 1 } }
      else outputError (inc .outboundErrorPacketAccepted b)
    exec (.packetAccepted p0 p1 s1 cmd crc) s = runStype1 ⟨0#3, p0, p1, s1, cmd, crc⟩ u ∧
      (s1 = 5#3 ∨ s1 = 7#3 →
        exec (.packetAccepted p0 p1 s1 cmd crc) s = .next { u with response := ⟨0#32, .idle, []⟩ })

/-- R179, R236, R306: PACKET_RETRY that is no SOP. -/
def Obligations.PacketRetryRewindsTheWindow : Prop :=
  ∀ (p0 p1 : Field5) (s1 cmd : Field3) (crc : Field5) (s : State),
    Heard ⟨1#3, p0, p1, s1, cmd, crc⟩ s → s1 ≠ 0#3 →
    let b : State := { s with tx := { s.tx with bufferStatus := p1 } }
    let u : State :=
      if s.tx.state ≠ .linkInitialized ∧ s.tx.state ≠ .outputRetryStopped then b
      else if p0 = s.tx.ackid then
        inc .outboundRetry { b with
          tx := { b.tx with
            ackidWindow := s.tx.ackid, state := .outputRetryStopped, frameState := .start, counter := 0 }
          txq := { s.txq with windowIndex := s.txq.frontIndex, windowSize := 0 } }
      else outputError (inc .outboundErrorPacketRetry b)
    exec (.packetRetry p0 p1 s1 cmd crc) s = runStype1 ⟨1#3, p0, p1, s1, cmd, crc⟩ u ∧
      (s1 = 5#3 ∨ s1 = 7#3 →
        exec (.packetRetry p0 p1 s1 cmd crc) s = .next { u with response := ⟨0#32, .idle, []⟩ })

/-- R180, R237: PACKET_NOT_ACCEPTED that is no SOP. -/
def Obligations.PacketNotAcceptedIsCountedByCause : Prop :=
  ∀ (p0 p1 : Field5) (s1 cmd : Field3) (crc : Field5) (s : State),
    Heard ⟨2#3, p0, p1, s1, cmd, crc⟩ s → s1 ≠ 0#3 →
    let c : CounterId :=
      if p1 = 1#5 then .partnerErrorPacketAckid
      else if p1 = 2#5 then .partnerErrorControlCrc
      else if p1 = 4#5 then .partnerErrorPacketCrc
      else if p1 = 5#5 then .partnerErrorIllegalCharacter
      else .partnerErrorGeneral
    let u : State :=
      if s.tx.state = .linkInitialized ∨ s.tx.state = .outputRetryStopped then outputError (inc c s) else inc c s
    exec (.packetNotAccepted p0 p1 s1 cmd crc) s = runStype1 ⟨2#3, p0, p1, s1, cmd, crc⟩ u ∧
      (s1 = 5#3 ∨ s1 = 7#3 →
        exec (.packetNotAccepted p0 p1 s1 cmd crc) s = .next { u with response := ⟨0#32, .idle, []⟩ })

/-- R181: STATUS that is no SOP, as its own row, as a Control symbol and as a PORT_ADD_SYMBOL. -/
def Obligations.StatusUpdatesAndInitializes : Prop :=
  ∀ (p0 p1 : Field5) (s1 cmd : Field3) (crc : Field5) (s : State),
    Heard ⟨4#3, p0, p1, s1, cmd, crc⟩ s → s1 ≠ 0#3 →
    let b : State := { s with tx := { s.tx with bufferStatus := p1 } }
    let u : State :=
      if s.rx.state = .portInitialized ∧ p0 = s.tx.ackid then
        { b with rx := { s.rx with statusReceived := true, state := .linkInitialized } }
      else b
    ∀ i ∈ [Instr.status p0 p1 s1 cmd crc, Instr.symControl (bodyOf ⟨4#3, p0, p1, s1, cmd, crc⟩),
        Instr.portAddSymbol (.control (bodyOf ⟨4#3, p0, p1, s1, cmd, crc⟩))],
      exec i s = runStype1 ⟨4#3, p0, p1, s1, cmd, crc⟩ u ∧
        (s1 = 5#3 ∨ s1 = 7#3 → exec i s = .next { u with response := ⟨0#32, .idle, []⟩ })

/-- R182, R238: LINK_RESPONSE that is no SOP, for the code that the parameter names (5 by default), whatever row that
code has. That the code is LINK_RESPONSE on the rows 3, 6 and 7 when the parameter names it is the model's choice (log
entry 3). -/
def Obligations.LinkResponseResynchronizes : Prop :=
  ∀ (p0 p1 : Field5) (s1 cmd : Field3) (crc : Field5) (s : State) (code : Field3),
    Heard ⟨code, p0, p1, s1, cmd, crc⟩ s → s1 ≠ 0#3 → code = s.cfg.stype0LinkResponse →
    QueueOk s.cfg s.cfg.txWords s.txq →
    let d : Nat := (p0 - s.tx.ackid).toNat
    let u : State :=
      if s.tx.state ≠ .outputErrorStopped ∨ s.tx.lrPending = true then s
      else if s.txq.windowSize < d then s
      else inc .outboundRetry (incBy .outboundComplete d { s with
        tx := { s.tx with
          ackid := p0, ackidWindow := p0, state := .linkInitialized, frameState := .start, counter := 0 }
        txq := { s.txq with
          frontIndex := (s.txq.frontIndex + d) % s.txq.size
          available := s.txq.available + d
          windowIndex := (s.txq.frontIndex + d) % s.txq.size
          windowSize := 0 } })
    ∀ i : Instr, (code = 5#3 ∧ i = .linkResponse p0 p1 s1 cmd crc) ∨
        (code = 3#3 ∧ i = .stype0Reserved3 p0 p1 s1 cmd crc) ∨
        (code = 6#3 ∧ i = .stype0Reserved6 p0 p1 s1 cmd crc) ∨
        (code = 7#3 ∧ i = .stype0Reserved7 p0 p1 s1 cmd crc) →
      exec i s = runStype1 ⟨code, p0, p1, s1, cmd, crc⟩ u ∧
        (s1 = 5#3 ∨ s1 = 7#3 → exec i s = .next { u with response := ⟨0#32, .idle, []⟩ })

/-- R177, R93: a stype0 code of the rows 3, 5, 6 and 7 that the parameter `STYPE0_LINK_RESPONSE` does not name has no
effect but the count, once for both halves. That the code 5 is such a code when the parameter names another is the model's
choice (log entry 3). -/
def Obligations.ReservedStype0OnlyCounts : Prop :=
  ∀ (p0 p1 : Field5) (s1 cmd : Field3) (crc : Field5) (s : State) (code : Field3),
    Heard ⟨code, p0, p1, s1, cmd, crc⟩ s → s1 ≠ 0#3 → code ≠ s.cfg.stype0LinkResponse →
    ∀ i : Instr, (code = 5#3 ∧ i = .linkResponse p0 p1 s1 cmd crc) ∨
        (code = 3#3 ∧ i = .stype0Reserved3 p0 p1 s1 cmd crc) ∨
        (code = 6#3 ∧ i = .stype0Reserved6 p0 p1 s1 cmd crc) ∨
        (code = 7#3 ∧ i = .stype0Reserved7 p0 p1 s1 cmd crc) →
      exec i s = runStype1 ⟨code, p0, p1, s1, cmd, crc⟩ s ∧
        (s1 = 5#3 ∨ s1 = 6#3 ∨ s1 = 7#3 →
          exec i s = .next { inc .inboundErrorPacketUnsupported s with response := ⟨0#32, .idle, []⟩ })

/-- R184, R90, R303: START_OF_PACKET, whatever its stype0: param1 is the buf_status, a packet in progress is ended as by an
END_OF_PACKET, then the ackID is checked, then the space. -/
def Obligations.StartOfPacketChecksAckidThenSpace : Prop :=
  ∀ (s0 : Field3) (p0 p1 : Field5) (cmd : Field3) (crc : Field5) (s : State),
    Heard ⟨s0, p0, p1, 0#3, cmd, crc⟩ s →
    let b : State := { s with tx := { s.tx with bufferStatus := p1 } }
    let started : State → State := fun v =>
      if p0 ≠ v.rx.ackid then inputError 1#5 (inc .inboundErrorPacketAckid v)
      else if v.rxq.available = 0 then inputRetry v
      else { v with rx := { v.rx with receiving := true, counter := 0, crc := 0xFFFF#16 } }
    (s.rx.state ≠ .linkInitialized →
      exec (.startOfPacket s0 p0 p1 cmd crc) s = .next { b with response := ⟨0#32, .idle, []⟩ }) ∧
    (s.rx.state = .linkInitialized → s.rx.receiving = false →
      exec (.startOfPacket s0 p0 p1 cmd crc) s = .next { started b with response := ⟨0#32, .idle, []⟩ }) ∧
    (s.rx.state = .linkInitialized → s.rx.receiving = true → Inv s →
      ∃ v, onEop b = .ok v ∧
        exec (.startOfPacket s0 p0 p1 cmd crc) s = .next
          { (if v.rx.state = .linkInitialized then started v else v) with response := ⟨0#32, .idle, []⟩ })

/-- R185, R187: STOMP discards the packet in progress, RESTART_FROM_RETRY leaves INPUT_RETRY_STOPPED; both after the stype0
half. -/
def Obligations.StompDiscardsAndRestartResumes : Prop :=
  ∀ (s0 : Field3) (p0 p1 : Field5) (cmd : Field3) (crc : Field5) (s : State), s.txq.windowSize ≤ queueUsed s.txq →
    (Heard ⟨s0, p0, p1, 1#3, cmd, crc⟩ s →
      ∃ u, Stype0Leaves ⟨s0, p0, p1, 1#3, cmd, crc⟩ s u ∧
        exec (.stomp s0 p0 p1 cmd crc) s = endSymbol ⟨s0, p0, p1, 1#3, cmd, crc⟩
          (if u.rx.state = .linkInitialized ∧ u.rx.receiving = true then
            { u with rx := { u.rx with receiving := false, counter := 0 } } else u)) ∧
    (Heard ⟨s0, p0, p1, 3#3, cmd, crc⟩ s →
      ∃ u, Stype0Leaves ⟨s0, p0, p1, 3#3, cmd, crc⟩ s u ∧
        exec (.restartFromRetry s0 p0 p1 cmd crc) s = endSymbol ⟨s0, p0, p1, 3#3, cmd, crc⟩
          (if u.rx.state = .inputRetryStopped then { u with rx := { u.rx with state := .linkInitialized } } else u))

/-- R186, R194, R134: END_OF_PACKET after the stype0 half: ignored, InputError(31), InputError(4), or the commit of the
packet received. -/
def Obligations.EndOfPacketCommitsOrRaises : Prop :=
  ∀ (s0 : Field3) (p0 p1 : Field5) (cmd : Field3) (crc : Field5) (s : State), Inv s →
    Heard ⟨s0, p0, p1, 2#3, cmd, crc⟩ s →
    ∃ u, Stype0Leaves ⟨s0, p0, p1, 2#3, cmd, crc⟩ s u ∧
      if u.rx.state ≠ .linkInitialized then
        exec (.endOfPacket s0 p0 p1 cmd crc) s = endSymbol ⟨s0, p0, p1, 2#3, cmd, crc⟩ u
      else if u.rx.receiving = false ∨ u.rx.counter = 0 then
        exec (.endOfPacket s0 p0 p1 cmd crc) s =
          endSymbol ⟨s0, p0, p1, 2#3, cmd, crc⟩ (inputError 31#5 (inc .inboundErrorGeneral u))
      else if u.rx.crc ≠ 0#16 then
        exec (.endOfPacket s0 p0 p1 cmd crc) s =
          endSymbol ⟨s0, p0, p1, 2#3, cmd, crc⟩ (inputError 4#5 (inc .inboundErrorPacketCrc u))
      else
        ∃ mem, exec (.endOfPacket s0 p0 p1 cmd crc) s =
            endSymbol ⟨s0, p0, p1, 2#3, cmd, crc⟩
              { inc .inboundComplete u with
                rxq := { u.rxq with
                  backIndex := (u.rxq.backIndex + 1) % u.rxq.size, available := u.rxq.available - 1 }
                rxbuf := mem
                rx := { u.rx with ackid := u.rx.ackid + 1#5, receiving := false, counter := 0 } } ∧
          bufRead mem (slotBase s.cfg s.rxq.backIndex) = some (BitVec.ofNat 32 u.rx.counter) ∧
          ∀ a : Nat, a ≠ slotBase s.cfg s.rxq.backIndex → bufRead mem a = bufRead s.rxbuf a

/-- R188, R191, R177: a LINK_REQUEST after the stype0 half: with the cmd `LREQ_INPUT_STATUS` it is counted, and answered by
a receiver past PORT_INITIALIZED; with any other cmd it has no effect but the count of unsupported symbols. -/
def Obligations.LinkRequestIsAnsweredOrUnsupported : Prop :=
  ∀ (s0 : Field3) (p0 p1 : Field5) (cmd : Field3) (crc : Field5) (s : State) (i : Instr),
    (cmd, i) ∈ linkRequestRows s0 p0 p1 crc → s.txq.windowSize ≤ queueUsed s.txq →
    Heard ⟨s0, p0, p1, 4#3, cmd, crc⟩ s →
    ∃ u, Stype0Leaves ⟨s0, p0, p1, 4#3, cmd, crc⟩ s u ∧
      if cmd ≠ s.cfg.lreqInputStatus then
        exec i s = .next { inc .inboundErrorPacketUnsupported u with response := ⟨0#32, .idle, []⟩ }
      else if u.rx.state = .portInitialized then
        exec i s = endSymbol ⟨s0, p0, p1, 4#3, cmd, crc⟩ (inc .partnerLinkRequest u)
      else
        exec i s = endSymbol ⟨s0, p0, p1, 4#3, cmd, crc⟩
          { inc .partnerLinkRequest u with
            rx := { u.rx with
              state := .linkInitialized, receiving := false, counter := 0, ackidAcked := u.rx.ackid }
            tx := { u.tx with
              mailbox := .sendLinkResponse
              mailboxParam :=
                if u.rx.state = .linkInitialized then s.cfg.psOk
                else if u.rx.state = .inputRetryStopped then s.cfg.psRetryStopped
                else s.cfg.psErrorStopped } }

/-- R189, R190, R191: MULTICAST_EVENT, NOP and the reserved stype1 6 add nothing to the stype0 half, but for the count of
the reserved code. -/
def Obligations.EventNopAndReservedStype1AddNothing : Prop :=
  ∀ (s0 : Field3) (p0 p1 : Field5) (cmd : Field3) (crc : Field5) (s : State), s.txq.windowSize ≤ queueUsed s.txq →
    (Heard ⟨s0, p0, p1, 5#3, cmd, crc⟩ s → ∃ u, Stype0Leaves ⟨s0, p0, p1, 5#3, cmd, crc⟩ s u ∧
      exec (.multicastEvent s0 p0 p1 cmd crc) s = endSymbol ⟨s0, p0, p1, 5#3, cmd, crc⟩ u) ∧
    (Heard ⟨s0, p0, p1, 7#3, cmd, crc⟩ s → ∃ u, Stype0Leaves ⟨s0, p0, p1, 7#3, cmd, crc⟩ s u ∧
      exec (.nop s0 p0 p1 cmd crc) s = endSymbol ⟨s0, p0, p1, 7#3, cmd, crc⟩ u) ∧
    (Heard ⟨s0, p0, p1, 6#3, cmd, crc⟩ s → ∃ u, Stype0Leaves ⟨s0, p0, p1, 6#3, cmd, crc⟩ s u ∧
      exec (.stype1Reserved6 s0 p0 p1 cmd crc) s =
        .next { inc .inboundErrorPacketUnsupported u with response := ⟨0#32, .idle, []⟩ })

/-! ### Outbound symbols -/

/-- R223, R224: what PORT_GET_SYMBOL emits and writes while a mailbox request or an acknowledgement is pending; the mailbox
goes first. -/
def Obligations.MailboxThenAcknowledgement : Prop :=
  ∀ s : State, s.tx.state ≠ .uninitialized →
    let bs : Field5 := BitVec.ofNat 5 (min s.rxq.available 31)
    (s.tx.mailbox = .sendPacketRetry → exec .portGetSymbol s = .next
      { s with
        tx := { s.tx with mailbox := .noRequest, mailboxParam := 0#5, bufstatSent := bs }
        response := ⟨0#32, .control (controlSymbolOf 1#3 s.rx.ackid bs 7#3 0#3), []⟩ }) ∧
    (s.tx.mailbox = .sendPacketNotAccepted → exec .portGetSymbol s = .next
      { s with
        tx := { s.tx with mailbox := .noRequest, mailboxParam := 0#5 }
        response := ⟨0#32, .control (controlSymbolOf 2#3 s.rx.ackid s.tx.mailboxParam 7#3 0#3), []⟩ }) ∧
    (s.tx.mailbox = .sendLinkResponse → exec .portGetSymbol s = .next
      { s with
        tx := { s.tx with mailbox := .noRequest, mailboxParam := 0#5 }
        response :=
          ⟨0#32, .control (controlSymbolOf s.cfg.stype0LinkResponse s.rx.ackid s.tx.mailboxParam 7#3 0#3), []⟩ }) ∧
    (s.tx.mailbox = .noRequest → s.rx.ackidAcked ≠ s.rx.ackid → exec .portGetSymbol s = .next
      { s with
        rx := { s.rx with ackidAcked := s.rx.ackidAcked + 1#5 }
        tx := { s.tx with bufstatSent := bs }
        response := ⟨0#32, .control (controlSymbolOf 0#3 s.rx.ackidAcked bs 7#3 0#3), []⟩ })

/-- R225, R226, R227, R239: the three LINK_REQUESTs of the transmitter, with no mailbox request and no acknowledgement
pending. -/
def Obligations.LinkRequestOnTimeoutRepeatAndError : Prop :=
  ∀ s : State, s.tx.mailbox = .noRequest → s.rx.ackidAcked = s.rx.ackid →
    let bs : Field5 := BitVec.ofNat 5 (min s.rxq.available 31)
    let fires : Prop := s.port.timeout.toNat < (s.port.time - s.tx.frameTimeout.get s.tx.ackid.toFin).toNat
    let stamped : Vector Word 32 := s.tx.frameTimeout.set s.tx.ackid.toFin s.port.time
    let resp : Response := ⟨0#32, .control (controlSymbolOf 4#3 s.rx.ackid bs 4#3 s.cfg.lreqInputStatus), []⟩
    (s.tx.state = .linkInitialized → 0 < s.txq.windowSize → fires → exec .portGetSymbol s = .next
      { inc .outboundErrorTimeout s with
        tx := { s.tx with
          state := .outputErrorStopped, lrPending := false, frameState := .start, counter := 0
          frameTimeout := stamped, bufstatSent := bs }
        response := resp }) ∧
    (s.tx.state = .outputErrorStopped → s.tx.lrPending = false → fires → exec .portGetSymbol s = .next
      { inc .outboundErrorTimeout s with
        tx := { s.tx with frameTimeout := stamped, bufstatSent := bs }
        response := resp }) ∧
    (s.tx.state = .outputErrorStopped → s.tx.lrPending = true → exec .portGetSymbol s = .next
      { s with
        tx := { s.tx with lrPending := false, frameTimeout := stamped, bufstatSent := bs }
        response := resp })

/-- R228, R229: the RESTART_FROM_RETRY that leaves OUTPUT_RETRY_STOPPED, and the STATUS of PORT_INITIALIZED. -/
def Obligations.RestartAndInitialStatus : Prop :=
  ∀ s : State, s.tx.mailbox = .noRequest → s.rx.ackidAcked = s.rx.ackid →
    let bs : Field5 := BitVec.ofNat 5 (min s.rxq.available 31)
    let n : Nat := min (s.tx.statusCounter + 1) s.cfg.nStatus
    (s.tx.state = .outputRetryStopped → exec .portGetSymbol s = .next
      { s with
        tx := { s.tx with state := .linkInitialized, bufstatSent := bs }
        response := ⟨0#32, .control (controlSymbolOf 4#3 s.rx.ackid bs 3#3 0#3), []⟩ }) ∧
    (s.tx.state = .portInitialized → exec .portGetSymbol s = .next
      { s with
        tx := { s.tx with
          statusCounter := n
          state := if s.rx.statusReceived = true ∧ s.cfg.nStatus ≤ n then .linkInitialized else .portInitialized
          bufstatSent := bs }
        response := ⟨0#32, .control (controlSymbolOf 4#3 s.rx.ackid bs 7#3 0#3), []⟩ })

/-- R230, R240: the SOP of the next packet. -/
def Obligations.StartOfPacketIsEmittedInTheWindow : Prop :=
  ∀ s : State, s.tx.mailbox = .noRequest → s.rx.ackidAcked = s.rx.ackid → s.tx.state = .linkInitialized →
    s.tx.frameState = .start → s.txq.windowSize = 0 ∨ timedOut s = false →
    0 < queueUsed s.txq - s.txq.windowSize → s.txq.windowSize < min s.tx.bufferStatus.toNat 31 →
    exec .portGetSymbol s = .next
      { s with
        tx := { s.tx with
          frameState := .body, counter := 0, bufstatSent := BitVec.ofNat 5 (min s.rxq.available 31) }
        response := ⟨0#32, .control
          (controlSymbolOf 4#3 s.tx.ackidWindow (BitVec.ofNat 5 (min s.rxq.available 31)) 0#3 0#3), []⟩ }

/-- R231, R232, R127, R128: in BODY the next word of the window packet is emitted, or its END_OF_PACKET, which stamps it
and moves the window on. -/
def Obligations.FrameBodyEmitsWordsThenEnd : Prop :=
  ∀ s : State, Inv s → s.tx.mailbox = .noRequest → s.rx.ackidAcked = s.rx.ackid → s.tx.frameState = .body →
    s.txq.windowSize = 0 ∨ timedOut s = false →
    let base : Nat := slotBase s.cfg s.txq.windowIndex
    let bs : Field5 := BitVec.ofNat 5 (min s.rxq.available 31)
    ∃ len : Word, bufRead s.txbuf base = some len ∧
      if s.tx.counter < len.toNat then
        ∃ x : Word, bufRead s.txbuf (base + 1 + s.tx.counter) = some x ∧
          exec .portGetSymbol s = .next
            { s with tx := { s.tx with counter := s.tx.counter + 1 }, response := ⟨0#32, .data x, []⟩ }
      else
        exec .portGetSymbol s = .next
          { s with
            txq := { s.txq with
              windowIndex := (s.txq.windowIndex + 1) % s.txq.size, windowSize := s.txq.windowSize + 1 }
            tx := { s.tx with
              frameTimeout := s.tx.frameTimeout.set s.tx.ackidWindow.toFin s.port.time
              ackidWindow := s.tx.ackidWindow + 1#5
              frameState := .start, counter := 0, bufstatSent := bs }
            response := ⟨0#32, .control (controlSymbolOf 4#3 s.rx.ackid bs 2#3 0#3), []⟩ }

/-- R222, R233, R234: Idle in UNINITIALIZED; and with nothing else to emit, the buffer-status update when the free-slot
count differs from the one last advertised, Idle otherwise. Idle changes no state. -/
def Obligations.BufferStatusUpdateOrIdle : Prop :=
  (∀ s : State, s.tx.state = .uninitialized →
    exec .portGetSymbol s = .next { s with response := ⟨0#32, .idle, []⟩ }) ∧
  ∀ s : State, s.tx.mailbox = .noRequest → s.rx.ackidAcked = s.rx.ackid →
    let bs : Field5 := BitVec.ofNat 5 (min s.rxq.available 31)
    let fires : Prop := s.port.timeout.toNat < (s.port.time - s.tx.frameTimeout.get s.tx.ackid.toFin).toNat
    (s.tx.state = .linkInitialized ∧ (s.txq.windowSize = 0 ∨ ¬ fires) ∧ s.tx.frameState = .start ∧
        ¬ (0 < queueUsed s.txq - s.txq.windowSize ∧ s.txq.windowSize < min s.tx.bufferStatus.toNat 31)) ∨
      (s.tx.state = .outputErrorStopped ∧ s.tx.lrPending = false ∧ ¬ fires) →
    exec .portGetSymbol s = .next
      (if bs ≠ s.tx.bufstatSent then
        { s with
          tx := { s.tx with bufstatSent := bs }
          response := ⟨0#32, .control (controlSymbolOf 4#3 s.rx.ackid bs 7#3 0#3), []⟩ }
      else { s with response := ⟨0#32, .idle, []⟩ })

/-- R94, R95, R84, R61: the symbol PORT_GET_SYMBOL returns is Idle, a data word, or a control symbol of one of the forms of
R94 with its CRC-5, never Error; and no other instruction returns a symbol (R97). -/
def Obligations.EmittedSymbolsHaveTheirForms : Prop :=
  (∀ s t : State, exec .portGetSymbol s = .next t →
    let bs : Field5 := BitVec.ofNat 5 (min s.rxq.available 31)
    t.response.sym = .idle ∨ (∃ w, t.response.sym = .data w) ∨
      ∃ c, t.response.sym = .control c ∧ crcGood c = true ∧
        (c = controlSymbolOf 1#3 s.rx.ackid bs 7#3 0#3 ∨
          c = controlSymbolOf 2#3 s.rx.ackid s.tx.mailboxParam 7#3 0#3 ∨
          c = controlSymbolOf s.cfg.stype0LinkResponse s.rx.ackid s.tx.mailboxParam 7#3 0#3 ∨
          c = controlSymbolOf 0#3 s.rx.ackidAcked bs 7#3 0#3 ∨
          c = controlSymbolOf 4#3 s.rx.ackid bs 4#3 s.cfg.lreqInputStatus ∨
          c = controlSymbolOf 4#3 s.rx.ackid bs 3#3 0#3 ∨
          c = controlSymbolOf 4#3 s.rx.ackid bs 7#3 0#3 ∨
          c = controlSymbolOf 4#3 s.tx.ackidWindow bs 0#3 0#3 ∨
          c = controlSymbolOf 4#3 s.rx.ackid bs 2#3 0#3)) ∧
    ∀ (i : Instr) (s t : State), i ≠ .portGetSymbol → exec i s = .next t → t.response.sym = .idle

/-! ### Runs -/

/-- R229, R334: bring-up from power-on. After PORT_SET_STATUS(1) and one STATUS of the peer with ackID 0, the link is
initialized after exactly N_STATUS PORT_GET_SYMBOLs, and no counter changed. -/
def Obligations.BringUpTakesNStatusSymbols : Prop :=
  ∀ (cfg : Config) (bs : Field5) (n : Nat), 0 < cfg.nStatus → n ≤ cfg.nStatus →
    ∃ t, execAll (.portSetStatus 1#32 :: .portAddSymbol (.control (controlSymbolOf 4#3 0#5 bs 7#3 0#3)) ::
          List.replicate n .portGetSymbol) (State.powerOn cfg) = .next t ∧
      t.rx.state = .linkInitialized ∧
      t.tx.state = (if n = cfg.nStatus then .linkInitialized else .portInitialized) ∧
      t.tx.statusCounter = n ∧ t.tx.bufferStatus = bs ∧ t.counter = Vector.replicate 20 0#32 ∧
      linkIsInitialized t = decide (n = cfg.nStatus)

/-- R67, R159, R230 to R232, R184, R174, R186, R194: a packet crosses the link. Engine `a` can start a packet and has
nothing of higher priority to send; engine `b` expects its ackID and has a free slot; the packet's residue is 0. Then the
L + 2 symbols `a` emits are its SOP, the words in order and its EOP, and they append the packet, word for word, to what
`b` holds. The link is two States and the symbols carried between them (log entry 14). -/
def Obligations.PacketCrossesTheLink : Prop :=
  ∀ (a b : State) (pkt : Packet), Inv a → Inv b →
    a.tx.state = .linkInitialized → a.tx.frameState = .start → a.tx.mailbox = .noRequest →
    a.rx.ackidAcked = a.rx.ackid → canStart a = true → a.txq.windowSize = 0 ∨ timedOut a = false →
    pkt = storedPacket a.cfg a.txbuf a.txq.windowIndex →
    b.rx.state = .linkInitialized → b.rx.receiving = false → b.rx.ackid = a.tx.ackidWindow → 0 < b.rxq.available →
    pkt.length ≤ b.cfg.m → packetResidue b.cfg pkt = 0#16 →
    ∃ a' b' : State,
      emitted (pkt.length + 2) a = some
        (.control (controlSymbolOf 4#3 a.tx.ackidWindow (bufStatus a) 0#3 0#3) ::
          (pkt.map .data ++ [.control (controlSymbolOf 4#3 a.rx.ackid (bufStatus a) 2#3 0#3)]), a') ∧
      a'.txq.windowSize = a.txq.windowSize + 1 ∧ a'.tx.ackidWindow = a.tx.ackidWindow + 1#5 ∧
      frameStamp a'.tx a.tx.ackidWindow = a.port.time ∧
      execAll ((.control (controlSymbolOf 4#3 a.tx.ackidWindow (bufStatus a) 0#3 0#3) ::
          (pkt.map .data ++ [.control (controlSymbolOf 4#3 a.rx.ackid (bufStatus a) 2#3 0#3)])).map .portAddSymbol) b = .next b' ∧
      b'.rx.state = .linkInitialized ∧ b'.rx.ackid = b.rx.ackid + 1#5 ∧
      counterOf b' .inboundComplete = saturatingAdd (counterOf b .inboundComplete) 1 ∧
      queuedPackets b'.cfg b'.rxq b'.rxbuf = queuedPackets b.cfg b.rxq b.rxbuf ++ [pkt]

/-- R308: the recovery handshake between two engines. `b` gets a control symbol with a bad CRC-5; the four symbols that
follow bring both ends back to LINK_INITIALIZED, with `a` sending next the packet `b` expects and no other packet lost. The link is two States and the symbols carried
between them (log entry 14); the codes of the parameters are ones for which the rules make sense (`Config.ok`, log
entry 3). -/
def Obligations.RecoveryHandshakeResynchronizes : Prop :=
  ∀ (a b : State) (c : Body), Inv a → Inv b → Config.ok a.cfg →
    b.cfg.stype0LinkResponse = a.cfg.stype0LinkResponse → b.cfg.lreqInputStatus = a.cfg.lreqInputStatus →
    b.rx.state = .linkInitialized ∨ b.rx.state = .inputRetryStopped → crcGood c = false →
    a.tx.state = .linkInitialized → a.tx.mailbox = .noRequest → a.rx.ackidAcked = a.rx.ackid →
    (b.rx.ackid - a.tx.ackid).toNat ≤ a.txq.windowSize →
    ∃ b1 b2 a1 a2 b3 b4 a3,
      exec (.portAddSymbol (.control c)) b = .next b1 ∧ b1.rx.state = .inputErrorStopped ∧
      sendSymbol b1 a = some (b2, a1) ∧ a1.tx.state = .outputErrorStopped ∧
      sendSymbol a1 b2 = some (a2, b3) ∧ sendSymbol b3 a2 = some (b4, a3) ∧
      b4.rx.state = .linkInitialized ∧ b4.rx.ackid = b.rx.ackid ∧ b4.tx.mailbox = .noRequest ∧
      a3.tx.state = .linkInitialized ∧ a3.tx.ackid = b.rx.ackid ∧ a3.tx.ackidWindow = b.rx.ackid ∧
      a3.txq.windowSize = 0 ∧
      queuedPackets a3.cfg a3.txq a3.txbuf =
        (queuedPackets a.cfg a.txq a.txbuf).drop (b.rx.ackid - a.tx.ackid).toNat ∧
      counterOf a3 .partnerErrorControlCrc = saturatingAdd (counterOf a .partnerErrorControlCrc) 1 ∧
      counterOf a3 .outboundRetry = saturatingAdd (counterOf a .outboundRetry) 1 ∧
      counterOf a3 .outboundComplete =
        saturatingAdd (counterOf a .outboundComplete) (b.rx.ackid - a.tx.ackid).toNat

end
end

