-- ==== Sys2Proof/Laws/State.lean ====
section
/-!
SUPPORT. The small lemmas of the state's named updates: for each update and each field of State, what the field is
afterwards. All are true by rfl, and no later proof unfolds a record update.
-/

namespace Sys2Proof.Machine

variable (s : State)

section setCounterFields

variable (c : CounterId) (v : Word)

@[simp] theorem setCounter_rx : (setCounter c v s).rx = s.rx := rfl
@[simp] theorem setCounter_tx : (setCounter c v s).tx = s.tx := rfl
@[simp] theorem setCounter_port : (setCounter c v s).port = s.port := rfl
@[simp] theorem setCounter_rxq : (setCounter c v s).rxq = s.rxq := rfl
@[simp] theorem setCounter_txq : (setCounter c v s).txq = s.txq := rfl
@[simp] theorem setCounter_rxbuf : (setCounter c v s).rxbuf = s.rxbuf := rfl
@[simp] theorem setCounter_txbuf : (setCounter c v s).txbuf = s.txbuf := rfl
@[simp] theorem setCounter_cfg : (setCounter c v s).cfg = s.cfg := rfl
@[simp] theorem setCounter_pending : (setCounter c v s).pending = s.pending := rfl
@[simp] theorem setCounter_response : (setCounter c v s).response = s.response := rfl

end setCounterFields

section incByFields

variable (c : CounterId) (d : Nat)

@[simp] theorem incBy_rx : (incBy c d s).rx = s.rx := rfl
@[simp] theorem incBy_tx : (incBy c d s).tx = s.tx := rfl
@[simp] theorem incBy_port : (incBy c d s).port = s.port := rfl
@[simp] theorem incBy_rxq : (incBy c d s).rxq = s.rxq := rfl
@[simp] theorem incBy_txq : (incBy c d s).txq = s.txq := rfl
@[simp] theorem incBy_rxbuf : (incBy c d s).rxbuf = s.rxbuf := rfl
@[simp] theorem incBy_txbuf : (incBy c d s).txbuf = s.txbuf := rfl
@[simp] theorem incBy_cfg : (incBy c d s).cfg = s.cfg := rfl
@[simp] theorem incBy_pending : (incBy c d s).pending = s.pending := rfl
@[simp] theorem incBy_response : (incBy c d s).response = s.response := rfl

end incByFields

section incFields

variable (c : CounterId)

@[simp] theorem inc_rx : (inc c s).rx = s.rx := rfl
@[simp] theorem inc_tx : (inc c s).tx = s.tx := rfl
@[simp] theorem inc_port : (inc c s).port = s.port := rfl
@[simp] theorem inc_rxq : (inc c s).rxq = s.rxq := rfl
@[simp] theorem inc_txq : (inc c s).txq = s.txq := rfl
@[simp] theorem inc_rxbuf : (inc c s).rxbuf = s.rxbuf := rfl
@[simp] theorem inc_txbuf : (inc c s).txbuf = s.txbuf := rfl
@[simp] theorem inc_cfg : (inc c s).cfg = s.cfg := rfl
@[simp] theorem inc_pending : (inc c s).pending = s.pending := rfl
@[simp] theorem inc_response : (inc c s).response = s.response := rfl

end incFields

section inputErrorFields

variable (cause : Field5)

@[simp] theorem inputError_rx :
    (inputError cause s).rx = { s.rx with state := .inputErrorStopped, errorCause := cause, receiving := false, counter := 0 } := rfl
@[simp] theorem inputError_tx :
    (inputError cause s).tx = { s.tx with mailbox := .sendPacketNotAccepted, mailboxParam := cause } := rfl
@[simp] theorem inputError_port : (inputError cause s).port = s.port := rfl
@[simp] theorem inputError_rxq : (inputError cause s).rxq = s.rxq := rfl
@[simp] theorem inputError_txq : (inputError cause s).txq = s.txq := rfl
@[simp] theorem inputError_rxbuf : (inputError cause s).rxbuf = s.rxbuf := rfl
@[simp] theorem inputError_txbuf : (inputError cause s).txbuf = s.txbuf := rfl
@[simp] theorem inputError_counter : (inputError cause s).counter = s.counter := rfl
@[simp] theorem inputError_cfg : (inputError cause s).cfg = s.cfg := rfl
@[simp] theorem inputError_pending : (inputError cause s).pending = s.pending := rfl
@[simp] theorem inputError_response : (inputError cause s).response = s.response := rfl

end inputErrorFields

section inputRetryFields

@[simp] theorem inputRetry_rx :
    (inputRetry s).rx = { s.rx with state := .inputRetryStopped, receiving := false, counter := 0 } := rfl
@[simp] theorem inputRetry_tx :
    (inputRetry s).tx = { s.tx with mailbox := .sendPacketRetry, mailboxParam := 0#5 } := rfl
@[simp] theorem inputRetry_port : (inputRetry s).port = s.port := rfl
@[simp] theorem inputRetry_rxq : (inputRetry s).rxq = s.rxq := rfl
@[simp] theorem inputRetry_txq : (inputRetry s).txq = s.txq := rfl
@[simp] theorem inputRetry_rxbuf : (inputRetry s).rxbuf = s.rxbuf := rfl
@[simp] theorem inputRetry_txbuf : (inputRetry s).txbuf = s.txbuf := rfl
@[simp] theorem inputRetry_cfg : (inputRetry s).cfg = s.cfg := rfl
@[simp] theorem inputRetry_pending : (inputRetry s).pending = s.pending := rfl
@[simp] theorem inputRetry_response : (inputRetry s).response = s.response := rfl

end inputRetryFields

section outputErrorFields

@[simp] theorem outputError_rx : (outputError s).rx = s.rx := rfl
@[simp] theorem outputError_tx :
    (outputError s).tx = { s.tx with state := .outputErrorStopped, lrPending := true, frameState := .start, counter := 0 } := rfl
@[simp] theorem outputError_port : (outputError s).port = s.port := rfl
@[simp] theorem outputError_rxq : (outputError s).rxq = s.rxq := rfl
@[simp] theorem outputError_txq : (outputError s).txq = s.txq := rfl
@[simp] theorem outputError_rxbuf : (outputError s).rxbuf = s.rxbuf := rfl
@[simp] theorem outputError_txbuf : (outputError s).txbuf = s.txbuf := rfl
@[simp] theorem outputError_counter : (outputError s).counter = s.counter := rfl
@[simp] theorem outputError_cfg : (outputError s).cfg = s.cfg := rfl
@[simp] theorem outputError_pending : (outputError s).pending = s.pending := rfl
@[simp] theorem outputError_response : (outputError s).response = s.response := rfl

end outputErrorFields

section inputRecoverFields

variable (ps : Field5)

@[simp] theorem inputRecover_rx :
    (inputRecover ps s).rx = { s.rx with state := .linkInitialized, receiving := false, counter := 0, ackidAcked := s.rx.ackid } := rfl
@[simp] theorem inputRecover_tx :
    (inputRecover ps s).tx = { s.tx with mailbox := .sendLinkResponse, mailboxParam := ps } := rfl
@[simp] theorem inputRecover_port : (inputRecover ps s).port = s.port := rfl
@[simp] theorem inputRecover_rxq : (inputRecover ps s).rxq = s.rxq := rfl
@[simp] theorem inputRecover_txq : (inputRecover ps s).txq = s.txq := rfl
@[simp] theorem inputRecover_rxbuf : (inputRecover ps s).rxbuf = s.rxbuf := rfl
@[simp] theorem inputRecover_txbuf : (inputRecover ps s).txbuf = s.txbuf := rfl
@[simp] theorem inputRecover_counter : (inputRecover ps s).counter = s.counter := rfl
@[simp] theorem inputRecover_cfg : (inputRecover ps s).cfg = s.cfg := rfl
@[simp] theorem inputRecover_pending : (inputRecover ps s).pending = s.pending := rfl
@[simp] theorem inputRecover_response : (inputRecover ps s).response = s.response := rfl

end inputRecoverFields

section outputRecoverFields

variable (a : Field5)

@[simp] theorem outputRecover_rx : (outputRecover a s).rx = s.rx := rfl
@[simp] theorem outputRecover_tx :
    (outputRecover a s).tx = { s.tx with
      state := .linkInitialized, ackid := a, ackidWindow := a, frameState := .start, counter := 0 } := rfl
@[simp] theorem outputRecover_port : (outputRecover a s).port = s.port := rfl
@[simp] theorem outputRecover_rxq : (outputRecover a s).rxq = s.rxq := rfl
@[simp] theorem outputRecover_txq :
    (outputRecover a s).txq = { s.txq with windowIndex := s.txq.frontIndex, windowSize := 0 } := rfl
@[simp] theorem outputRecover_rxbuf : (outputRecover a s).rxbuf = s.rxbuf := rfl
@[simp] theorem outputRecover_txbuf : (outputRecover a s).txbuf = s.txbuf := rfl
@[simp] theorem outputRecover_counter : (outputRecover a s).counter = s.counter := rfl
@[simp] theorem outputRecover_cfg : (outputRecover a s).cfg = s.cfg := rfl
@[simp] theorem outputRecover_pending : (outputRecover a s).pending = s.pending := rfl
@[simp] theorem outputRecover_response : (outputRecover a s).response = s.response := rfl

end outputRecoverFields

section setBufferStatusFields

variable (p1 : Field5)

@[simp] theorem setBufferStatus_rx : (setBufferStatus p1 s).rx = s.rx := rfl
@[simp] theorem setBufferStatus_tx :
    (setBufferStatus p1 s).tx = { s.tx with bufferStatus := p1 } := rfl
@[simp] theorem setBufferStatus_port : (setBufferStatus p1 s).port = s.port := rfl
@[simp] theorem setBufferStatus_rxq : (setBufferStatus p1 s).rxq = s.rxq := rfl
@[simp] theorem setBufferStatus_txq : (setBufferStatus p1 s).txq = s.txq := rfl
@[simp] theorem setBufferStatus_rxbuf : (setBufferStatus p1 s).rxbuf = s.rxbuf := rfl
@[simp] theorem setBufferStatus_txbuf : (setBufferStatus p1 s).txbuf = s.txbuf := rfl
@[simp] theorem setBufferStatus_counter : (setBufferStatus p1 s).counter = s.counter := rfl
@[simp] theorem setBufferStatus_cfg : (setBufferStatus p1 s).cfg = s.cfg := rfl
@[simp] theorem setBufferStatus_pending : (setBufferStatus p1 s).pending = s.pending := rfl
@[simp] theorem setBufferStatus_response : (setBufferStatus p1 s).response = s.response := rfl

end setBufferStatusFields

section stampFrameFields

variable (a : Field5)

@[simp] theorem stampFrame_rx : (stampFrame a s).rx = s.rx := rfl
@[simp] theorem stampFrame_tx :
    (stampFrame a s).tx = { s.tx with frameTimeout := s.tx.frameTimeout.set a.toFin s.port.time } := rfl
@[simp] theorem stampFrame_port : (stampFrame a s).port = s.port := rfl
@[simp] theorem stampFrame_rxq : (stampFrame a s).rxq = s.rxq := rfl
@[simp] theorem stampFrame_txq : (stampFrame a s).txq = s.txq := rfl
@[simp] theorem stampFrame_rxbuf : (stampFrame a s).rxbuf = s.rxbuf := rfl
@[simp] theorem stampFrame_txbuf : (stampFrame a s).txbuf = s.txbuf := rfl
@[simp] theorem stampFrame_counter : (stampFrame a s).counter = s.counter := rfl
@[simp] theorem stampFrame_cfg : (stampFrame a s).cfg = s.cfg := rfl
@[simp] theorem stampFrame_pending : (stampFrame a s).pending = s.pending := rfl
@[simp] theorem stampFrame_response : (stampFrame a s).response = s.response := rfl

end stampFrameFields

section recordBufStatusFields

@[simp] theorem recordBufStatus_rx : (recordBufStatus s).rx = s.rx := rfl
@[simp] theorem recordBufStatus_tx :
    (recordBufStatus s).tx = { s.tx with bufstatSent := bufStatus s } := rfl
@[simp] theorem recordBufStatus_port : (recordBufStatus s).port = s.port := rfl
@[simp] theorem recordBufStatus_rxq : (recordBufStatus s).rxq = s.rxq := rfl
@[simp] theorem recordBufStatus_txq : (recordBufStatus s).txq = s.txq := rfl
@[simp] theorem recordBufStatus_rxbuf : (recordBufStatus s).rxbuf = s.rxbuf := rfl
@[simp] theorem recordBufStatus_txbuf : (recordBufStatus s).txbuf = s.txbuf := rfl
@[simp] theorem recordBufStatus_counter : (recordBufStatus s).counter = s.counter := rfl
@[simp] theorem recordBufStatus_cfg : (recordBufStatus s).cfg = s.cfg := rfl
@[simp] theorem recordBufStatus_pending : (recordBufStatus s).pending = s.pending := rfl
@[simp] theorem recordBufStatus_response : (recordBufStatus s).response = s.response := rfl

end recordBufStatusFields

section takeInputFields

@[simp] theorem takeInput_rx : (takeInput s).rx = s.rx := rfl
@[simp] theorem takeInput_tx : (takeInput s).tx = s.tx := rfl
@[simp] theorem takeInput_port : (takeInput s).port = s.port := rfl
@[simp] theorem takeInput_rxq : (takeInput s).rxq = s.rxq := rfl
@[simp] theorem takeInput_txq : (takeInput s).txq = s.txq := rfl
@[simp] theorem takeInput_rxbuf : (takeInput s).rxbuf = s.rxbuf := rfl
@[simp] theorem takeInput_txbuf : (takeInput s).txbuf = s.txbuf := rfl
@[simp] theorem takeInput_counter : (takeInput s).counter = s.counter := rfl
@[simp] theorem takeInput_cfg : (takeInput s).cfg = s.cfg := rfl
@[simp] theorem takeInput_pending :
    (takeInput s).pending = s.pending.tail := rfl
@[simp] theorem takeInput_response : (takeInput s).response = s.response := rfl

end takeInputFields

section issueInputFields

variable (x : Input)

@[simp] theorem issueInput_rx : (issueInput x s).rx = s.rx := rfl
@[simp] theorem issueInput_tx : (issueInput x s).tx = s.tx := rfl
@[simp] theorem issueInput_port : (issueInput x s).port = s.port := rfl
@[simp] theorem issueInput_rxq : (issueInput x s).rxq = s.rxq := rfl
@[simp] theorem issueInput_txq : (issueInput x s).txq = s.txq := rfl
@[simp] theorem issueInput_rxbuf : (issueInput x s).rxbuf = s.rxbuf := rfl
@[simp] theorem issueInput_txbuf : (issueInput x s).txbuf = s.txbuf := rfl
@[simp] theorem issueInput_counter : (issueInput x s).counter = s.counter := rfl
@[simp] theorem issueInput_cfg : (issueInput x s).cfg = s.cfg := rfl
@[simp] theorem issueInput_pending :
    (issueInput x s).pending = s.pending ++ [x] := rfl
@[simp] theorem issueInput_response : (issueInput x s).response = s.response := rfl

end issueInputFields

section placeInputFields

variable (x : Input)

@[simp] theorem placeInput_rx : (placeInput x s).rx = s.rx := rfl
@[simp] theorem placeInput_tx : (placeInput x s).tx = s.tx := rfl
@[simp] theorem placeInput_port : (placeInput x s).port = s.port := rfl
@[simp] theorem placeInput_rxq : (placeInput x s).rxq = s.rxq := rfl
@[simp] theorem placeInput_txq : (placeInput x s).txq = s.txq := rfl
@[simp] theorem placeInput_rxbuf : (placeInput x s).rxbuf = s.rxbuf := rfl
@[simp] theorem placeInput_txbuf : (placeInput x s).txbuf = s.txbuf := rfl
@[simp] theorem placeInput_counter : (placeInput x s).counter = s.counter := rfl
@[simp] theorem placeInput_cfg : (placeInput x s).cfg = s.cfg := rfl
@[simp] theorem placeInput_pending :
    (placeInput x s).pending = x :: s.pending.tail := rfl
@[simp] theorem placeInput_response : (placeInput x s).response = s.response := rfl

end placeInputFields

/-- `inputRetry` counts once and writes no other counter. -/
@[simp] theorem inputRetry_counter : (inputRetry s).counter = (inc .inboundRetry s).counter := rfl

/-- `abort_frame()` (R241). -/
@[simp] theorem abortFrame_eq (t : TxRegs) : abortFrame t = { t with frameState := .start, counter := 0 } := rfl

end Sys2Proof.Machine
end

