-- ==== Sys2Proof/Laws/Counters.lean ====
section
/-!
SUPPORT. The diagnostic counters: reading back a written counter, and what one saturating increment does to each.
-/

namespace Sys2Proof.Machine

/-- Distinct counters have distinct ids (R44). -/
theorem counterIndex_injective : Function.Injective counterIndex := by
  intro a b h
  cases a <;> cases b <;> first | rfl | (exact absurd h (by decide))

/-- A written counter reads back; every other counter reads as before. -/
theorem counterOf_setCounter (c c' : CounterId) (v : Word) (s : State) :
    counterOf (setCounter c v s) c' = if c' = c then v else counterOf s c' := by
  by_cases h : c' = c
  · subst h; simp [counterOf, setCounter, Vector.get_eq_getElem]
  · have hne : (counterIndex c : Nat) ≠ (counterIndex c' : Nat) :=
      fun e => h (counterIndex_injective (Fin.ext e.symm))
    simp [counterOf, setCounter, Vector.get_eq_getElem, h, hne]

@[simp] theorem counterOf_setCounter_self (c : CounterId) (v : Word) (s : State) :
    counterOf (setCounter c v s) c = v := by simp [counterOf_setCounter]

/-- A saturating increase never lowers a counter (R11). -/
theorem le_saturatingAdd (v : Word) (d : Nat) : v.toNat ≤ (saturatingAdd v d).toNat := by
  have hv := v.isLt
  simp only [saturatingAdd, counterMax, BitVec.toNat_ofNat]
  omega

/-- `saturatingAdd` as a natural number: the sum, or the largest value. -/
theorem toNat_saturatingAdd (v : Word) (d : Nat) :
    (saturatingAdd v d).toNat = min (v.toNat + d) 0xFFFFFFFF := by
  simp only [saturatingAdd, counterMax, BitVec.toNat_ofNat]
  omega

/-- What `inc` done `d` times leaves in each counter (R11, D59). -/
theorem counterOf_incBy (c c' : CounterId) (d : Nat) (s : State) :
    counterOf (incBy c d s) c' = if c' = c then saturatingAdd (counterOf s c) d else counterOf s c' := by
  simp [incBy, counterOf_setCounter]

/-- What `inc` leaves in each counter (R11). -/
theorem counterOf_inc (c c' : CounterId) (s : State) :
    counterOf (inc c s) c' = if c' = c then saturatingAdd (counterOf s c) 1 else counterOf s c' :=
  counterOf_incBy c c' 1 s

/-- No counter falls under `incBy` (R44: the counters are monotonic). -/
theorem counter_le_incBy (c : CounterId) (d : Nat) (s : State) (k : Fin 20) :
    (s.counter.get k).toNat ≤ ((incBy c d s).counter.get k).toNat := by
  by_cases h : counterIndex c = k
  · subst h
    simpa [incBy, setCounter, counterOf, Vector.get_eq_getElem] using
      le_saturatingAdd (s.counter.get (counterIndex c)) d
  · have hne : (counterIndex c : Nat) ≠ (k : Nat) := fun e => h (Fin.ext e)
    simp [incBy, setCounter, Vector.get_eq_getElem, hne]

end Sys2Proof.Machine
end

