-- ==== Sys2Proof/Laws/Encoding.lean ====
section
/-!
SUPPORT. The field split of R85 and the body built of six fields, bit by bit and as inverses of each other.
-/

namespace Sys2Proof

/-- The bits of a body are the bits of its fields, at the places R85 gives them. -/
theorem getLsbD_bodyOf (f : ControlFields) (i : Nat) : (bodyOf f).getLsbD i =
    if i < 5 then f.crc5.getLsbD i
    else if i < 8 then f.cmd.getLsbD (i - 5)
    else if i < 11 then f.stype1.getLsbD (i - 8)
    else if i < 16 then f.param1.getLsbD (i - 11)
    else if i < 21 then f.param0.getLsbD (i - 16)
    else f.stype0.getLsbD (i - 21) := by
  show BitVec.getLsbD (w := 3 + 5 + 5 + 3 + 3 + 5)
    (f.stype0 ++ f.param0 ++ f.param1 ++ f.stype1 ++ f.cmd ++ f.crc5) i = _
  simp only [BitVec.getLsbD_append, Nat.sub_sub]
  repeat' split
  all_goals first | rfl | omega

/-- The field split reads back the fields a body was built of (R85, R153). -/
@[simp] theorem fieldsOf_bodyOf (f : ControlFields) : fieldsOf (bodyOf f) = f := by
  obtain ⟨a, b, c, d, e, g⟩ := f
  simp only [fieldsOf, ControlFields.mk.injEq]
  refine ⟨?_, ?_, ?_, ?_, ?_, ?_⟩ <;>
  · apply BitVec.eq_of_getLsbD_eq
    intro i hi
    simp only [BitVec.getLsbD_extractLsb', getLsbD_bodyOf, hi, decide_true, Bool.true_and]
    repeat' split
    all_goals first | omega | (congr 1; omega)

/-- Every body is built of its fields (R85). -/
@[simp] theorem bodyOf_fieldsOf (c : Body) : bodyOf (fieldsOf c) = c := by
  apply BitVec.eq_of_getLsbD_eq
  intro i hi
  simp only [getLsbD_bodyOf, fieldsOf, BitVec.getLsbD_extractLsb']
  repeat' split
  all_goals rw [decide_eq_true (by omega), Bool.true_and]; congr 1; omega

end Sys2Proof
end

