-- ==== Sys2Proof/Laws/Memory.lean ====
section
/-!
SUPPORT. The packet buffers: read after write, the form of a buffer is kept, and what the multi-word accesses do.
-/

namespace Sys2Proof.Machine

/-- A written word reads back; every other address reads as before. -/
theorem bufRead_bufWrite (mem : Memory) (hwf : Memory.wf mem) (a a' : Nat) (v : Word) :
    bufRead (bufWrite mem a v) a' = if a' = a then some v else bufRead mem a' := by
  induction mem with
  | nil => simp [bufWrite, bufRead]
  | cons p rest ih =>
    obtain ⟨b, w⟩ := p
    have hrest : Memory.wf rest := (List.pairwise_cons.mp hwf).2
    have hlt : ∀ q ∈ rest, b < q.1 := (List.pairwise_cons.mp hwf).1
    unfold bufWrite
    split
    · simp [bufRead]
    · split
      · subst b
        simp only [bufRead]
        split <;> rfl
      · simp only [bufRead, ih hrest]
        by_cases h1 : a' = b
        · subst a'
          have : ¬b = a := by omega
          simp [this]
        · simp [h1]

/-- The entries of a written buffer: the written one, and entries of the buffer before. -/
theorem mem_bufWrite (mem : Memory) (a : Nat) (v : Word) (p : Nat × Word) (h : p ∈ bufWrite mem a v) :
    p = (a, v) ∨ p ∈ mem := by
  induction mem with
  | nil => simp [bufWrite] at h; exact .inl h
  | cons q rest ih =>
    obtain ⟨b, w⟩ := q
    unfold bufWrite at h
    split at h
    · simpa using h
    · split at h
      · rcases List.mem_cons.mp h with h | h
        · exact .inl h
        · exact .inr (List.mem_cons_of_mem _ h)
      · rcases List.mem_cons.mp h with h | h
        · exact .inr (by simp [h])
        · exact (ih h).imp_right (List.mem_cons_of_mem _)

/-- A write keeps the form of a buffer. -/
theorem wf_bufWrite (mem : Memory) (hwf : Memory.wf mem) (a : Nat) (v : Word) :
    Memory.wf (bufWrite mem a v) := by
  induction mem with
  | nil => simp [bufWrite]
  | cons q rest ih =>
    obtain ⟨b, w⟩ := q
    have hrest : Memory.wf rest := (List.pairwise_cons.mp hwf).2
    have hlt : ∀ q ∈ rest, b < q.1 := (List.pairwise_cons.mp hwf).1
    unfold bufWrite
    split
    · rename_i hab
      refine List.pairwise_cons.mpr ⟨fun p hp => ?_, hwf⟩
      rcases List.mem_cons.mp hp with h | h
      · simpa [h] using hab
      · exact lt_trans hab (hlt p h)
    · split
      · subst b
        exact List.pairwise_cons.mpr ⟨hlt, hrest⟩
      · refine List.pairwise_cons.mpr ⟨fun p hp => ?_, ih hrest⟩
        rcases mem_bufWrite rest a v p hp with h | h
        · subst h; simp only; omega
        · exact hlt p h

/-- The spec of `memRead`: it answers a written word at an address inside the slots, and nothing else (R62, R77). -/
theorem memRead_eq_ok (mem : Memory) (limit a : Nat) (w : Word) :
    memRead mem limit a = .ok w ↔ a < limit ∧ bufRead mem a = some w := by
  unfold memRead
  split
  · cases h : bufRead mem a <;> simp [*]
  · simp [*]

/-- The spec of `memWrite` (R62). -/
theorem memWrite_eq_ok (mem mem' : Memory) (limit a : Nat) (v : Word) :
    memWrite mem limit a v = .ok mem' ↔ a < limit ∧ mem' = bufWrite mem a v := by
  unfold memWrite
  split <;> simp [*, eq_comm]

/-- The spec of `memReadWords`: as many words as asked for, each the one at its address, inside the slots. -/
theorem memReadWords_eq_ok (mem : Memory) (limit : Nat) (n : Nat) (a : Nat) (ws : List Word) :
    memReadWords mem limit a n = .ok ws ↔
      ws.length = n ∧ ∀ k < n, a + k < limit ∧ bufRead mem (a + k) = ws[k]? := by
  induction n generalizing a ws with
  | zero => cases ws <;> simp [memReadWords]
  | succ n ih =>
    unfold memReadWords
    cases hr : memRead mem limit a with
    | error e =>
      simp only [reduceCtorEq, false_iff, not_and]
      intro hlen hall
      obtain ⟨h1, h2⟩ := hall 0 (by omega)
      cases ws with
      | nil => simp at hlen
      | cons w ws =>
        have : memRead mem limit a = .ok w := (memRead_eq_ok ..).mpr ⟨by simpa using h1, by simpa using h2⟩
        rw [hr] at this; cases this
    | ok w =>
      obtain ⟨hlt, hw⟩ := (memRead_eq_ok ..).mp hr
      have hsplit : ∀ ws', memReadWords mem limit (a + 1) n = .ok ws' ↔
          ws'.length = n ∧ ∀ k < n, a + 1 + k < limit ∧ bufRead mem (a + 1 + k) = ws'[k]? := ih (a + 1)
      cases hrs : memReadWords mem limit (a + 1) n with
      | error e =>
        simp only [reduceCtorEq, false_iff, not_and]
        intro hlen hall
        cases ws with
        | nil => simp at hlen
        | cons w' ws =>
          have : memReadWords mem limit (a + 1) n = .ok ws := (hsplit ws).mpr
            ⟨by simpa using hlen, fun k hk => by
              have := hall (k + 1) (by omega)
              simpa [Nat.add_assoc, Nat.add_comm 1 k] using this⟩
          rw [hrs] at this; cases this
      | ok ws' =>
        obtain ⟨hl', hall'⟩ := (hsplit ws').mp hrs
        constructor
        · rintro h
          cases h
          refine ⟨by simp [hl'], fun k hk => ?_⟩
          cases k with
          | zero => exact ⟨by simpa using hlt, by simpa using hw⟩
          | succ k =>
            have := hall' k (by omega)
            simpa [Nat.add_assoc, Nat.add_comm 1 k] using this
        · rintro ⟨hlen, hall⟩
          cases ws with
          | nil => simp at hlen
          | cons w' ws =>
            have h0 := (hall 0 (by omega)).2
            have hws : memReadWords mem limit (a + 1) n = .ok ws := (hsplit ws).mpr
              ⟨by simpa using hlen, fun k hk => by
                have := hall (k + 1) (by omega)
                simpa [Nat.add_assoc, Nat.add_comm 1 k] using this⟩
            rw [hrs] at hws
            have hw' : w = w' := by simpa [hw] using h0
            cases hws; rw [hw']

/-- The spec of `memWriteWords`: it needs every address inside the slots, keeps the form, and afterwards each address of
the run reads its word and every other address reads as before. -/
theorem memWriteWords_eq_ok (limit : Nat) (ws : List Word) (mem mem' : Memory) (hwf : Memory.wf mem) (a : Nat)
    (h : memWriteWords mem limit a ws = .ok mem') :
    (∀ k < ws.length, a + k < limit) ∧ Memory.wf mem' ∧
      ∀ b, bufRead mem' b = if a ≤ b ∧ b < a + ws.length then ws[b - a]? else bufRead mem b := by
  induction ws generalizing mem a with
  | nil =>
    cases h
    refine ⟨by simp, hwf, fun b => ?_⟩
    have : ¬(a ≤ b ∧ b < a + ([] : List Word).length) := by simp
    rw [if_neg this]
  | cons w ws ih =>
    unfold memWriteWords at h
    cases hw : memWrite mem limit a w with
    | error e => rw [hw] at h; cases h
    | ok mem1 =>
      rw [hw] at h
      obtain ⟨hlt, rfl⟩ := (memWrite_eq_ok ..).mp hw
      obtain ⟨hin, hwf', hread⟩ := ih _ (wf_bufWrite mem hwf a w) _ h
      refine ⟨fun k hk => ?_, hwf', fun b => ?_⟩
      · cases k with
        | zero => simpa using hlt
        | succ k => have := hin k (by simpa using hk); omega
      · rw [hread b, bufRead_bufWrite mem hwf]
        simp only [List.length_cons]
        by_cases h1 : b = a
        · subst h1
          rw [if_neg (by omega), if_pos rfl, if_pos (by omega)]
          simp
        · by_cases h2 : a + 1 ≤ b ∧ b < a + 1 + ws.length
          · rw [if_pos h2, if_pos (by omega)]
            obtain ⟨k, rfl⟩ : ∃ k, b = a + 1 + k := ⟨b - (a + 1), by omega⟩
            rw [show a + 1 + k - a = k + 1 by omega, show a + 1 + k - (a + 1) = k by omega]
            simp
          · rw [if_neg h2, if_neg h1, if_neg (by omega)]

/-- `memWriteWords` answers when every address is inside the slots. -/
theorem memWriteWords_ok_of_lt (limit : Nat) (ws : List Word) (mem : Memory) (a : Nat)
    (h : a + ws.length ≤ limit) : ∃ mem', memWriteWords mem limit a ws = .ok mem' := by
  induction ws generalizing mem a with
  | nil => exact ⟨mem, rfl⟩
  | cons w ws ih =>
    simp only [List.length_cons] at h
    unfold memWriteWords
    rw [show memWrite mem limit a w = .ok (bufWrite mem a w) from if_pos (by omega)]
    exact ih _ _ (by omega)

end Sys2Proof.Machine
end

