-- ==== Sys2Proof/Laws/Queue.lean ====
section
/-!
SUPPORT. The queue primitives (40_queue.md): for each, everything it can do if it answers, and when it answers.
-/

namespace Sys2Proof.Machine

variable (cfg : Config) (q q' : Queue) (mem mem' : Memory)

/-- The spec of `pop_front` (R130). -/
theorem popFront_eq_ok :
    popFront q = .ok q' ↔ queueUsed q ≠ 0 ∧
      q' = { q with
        frontIndex := (q.frontIndex + 1) % q.size
        available := q.available + 1
        windowSize := q.windowSize - 1
        windowIndex := if 0 < q.windowSize then q.windowIndex else (q.frontIndex + 1) % q.size } := by
  unfold popFront
  by_cases h : queueUsed q = 0
  · simp [h]
  · by_cases hw : 0 < q.windowSize
    · simp [h, hw, eq_comm]
    · have : q.windowSize = 0 := by omega
      simp [h, this, eq_comm]

/-- The spec of the one-step retirement of `d` packets (R238, D60). -/
theorem popFrontMany_eq_ok (d : Nat) :
    popFrontMany q d = .ok q' ↔ (d = 0 ∧ q' = q) ∨ (0 < d ∧ d ≤ queueUsed q ∧
      q' = { q with
        frontIndex := (q.frontIndex + d) % q.size
        available := q.available + d
        windowSize := q.windowSize - d }) := by
  unfold popFrontMany
  by_cases h0 : d = 0
  · simp [h0, eq_comm]
  · by_cases hu : queueUsed q < d
    · simp [h0, hu]
    · simp [h0, hu, eq_comm, Nat.pos_of_ne_zero h0, not_lt.mp hu]

/-- The spec of `window_advance` (R128). -/
theorem windowAdvance_eq_ok :
    windowAdvance q = .ok q' ↔ windowAvailable q ≠ 0 ∧
      q' = { q with windowIndex := (q.windowIndex + 1) % q.size, windowSize := q.windowSize + 1 } := by
  unfold windowAdvance
  by_cases h : windowAvailable q = 0 <;> simp [h, eq_comm]

/-- The spec of `commit_back` (R134). -/
theorem commitBack_eq_ok (len : Nat) :
    commitBack cfg q mem len = .ok (q', mem') ↔ q.available ≠ 0 ∧
      slotBase cfg q.backIndex < slotLimit cfg q ∧
      mem' = bufWrite mem (slotBase cfg q.backIndex) (BitVec.ofNat 32 len) ∧
      q' = { q with backIndex := (q.backIndex + 1) % q.size, available := q.available - 1 } := by
  unfold commitBack
  by_cases h : q.available = 0
  · simp [h]
  · by_cases hb : slotBase cfg q.backIndex < slotLimit cfg q
    · simp [h, hb, memWrite, eq_comm, and_comm]
    · simp [h, hb, memWrite]

/-- The spec of `stage_word` (R135). -/
theorem stageWord_eq_ok (k : Nat) (w : Word) :
    stageWord cfg q mem k w = .ok mem' ↔ q.available ≠ 0 ∧
      stageAddress cfg q k < slotLimit cfg q ∧ mem' = bufWrite mem (stageAddress cfg q k) w := by
  unfold stageWord
  by_cases h : q.available = 0
  · simp [h]
  · simp [h, memWrite_eq_ok]

/-- What `push_back` did if it answers (R125): the length word and the words stand in the back slot, every other word of
the buffer is as before, the form is kept, and the registers moved. -/
theorem pushBack_ok (hwf : Memory.wf mem) (pkt : Packet) (h : pushBack cfg q mem pkt = .ok (q', mem')) :
    q.available ≠ 0 ∧
      q' = { q with backIndex := (q.backIndex + 1) % q.size, available := q.available - 1 } ∧
      Memory.wf mem' ∧
      ∀ b, bufRead mem' b =
        if slotBase cfg q.backIndex ≤ b ∧ b < slotBase cfg q.backIndex + (pkt.length + 1) then
          (BitVec.ofNat 32 pkt.length :: pkt)[b - slotBase cfg q.backIndex]?
        else bufRead mem b := by
  unfold pushBack at h
  by_cases ha : q.available = 0
  · simp [ha] at h
  · simp only [ha, if_false] at h
    split at h
    · cases h
    · rename_i mem1 hm
      obtain ⟨rfl, rfl⟩ : _ = q' ∧ _ = mem' := by simpa using h
      obtain ⟨_, hwf', hread⟩ := memWriteWords_eq_ok _ _ _ _ hwf _ hm
      exact ⟨ha, rfl, hwf', by simpa using hread⟩

/-- `push_back` answers when the queue has a free slot and the packet lies inside the slots. -/
theorem pushBack_isOk (pkt : Packet) (ha : q.available ≠ 0)
    (hin : slotBase cfg q.backIndex + (pkt.length + 1) ≤ slotLimit cfg q) :
    ∃ r, pushBack cfg q mem pkt = .ok r := by
  obtain ⟨mem1, hm⟩ := memWriteWords_ok_of_lt (slotLimit cfg q) (BitVec.ofNat 32 pkt.length :: pkt) mem
    (slotBase cfg q.backIndex) (by simpa using hin)
  simp only [pushBack, ha, if_false, hm]
  exact ⟨_, rfl⟩

/-- The packet of a slot, if it can be read: as many words as the length word says, each the one in its place (R61,
R126). -/
theorem slotPacket_eq_ok (i : Nat) (pkt : Packet) :
    slotPacket cfg q mem i = .ok pkt ↔
      (slotBase cfg i < slotLimit cfg q ∧ ∃ len, bufRead mem (slotBase cfg i) = some len ∧ pkt.length = len.toNat) ∧
        ∀ k < pkt.length, slotBase cfg i + 1 + k < slotLimit cfg q ∧
          bufRead mem (slotBase cfg i + 1 + k) = pkt[k]? := by
  unfold slotPacket
  cases h : memRead mem (slotLimit cfg q) (slotBase cfg i) with
  | error e =>
    simp only [reduceCtorEq, false_iff, not_and]
    rintro ⟨h1, len, h2, -⟩
    rw [(memRead_eq_ok ..).mpr ⟨h1, h2⟩] at h; cases h
  | ok len =>
    obtain ⟨h1, h2⟩ := (memRead_eq_ok ..).mp h
    simp only [memReadWords_eq_ok, h1, h2, Option.some.injEq, exists_eq_left', true_and]
    constructor
    · rintro ⟨hl, hall⟩; exact ⟨hl, by rw [hl]; exact hall⟩
    · rintro ⟨hl, hall⟩; exact ⟨hl, by rw [hl] at hall; exact hall⟩

/-- A slot's addresses lie inside the slots of a queue that has it (R61, R62). -/
theorem slot_in_limit {i k : Nat} (hi : i < q.size) (hk : k < cfg.slotWords) :
    slotBase cfg i + k < slotLimit cfg q := by
  have h : (i + 1) * cfg.slotWords ≤ q.size * cfg.slotWords := Nat.mul_le_mul_right _ hi
  simp only [slotBase, slotLimit, Nat.add_mul] at *
  omega

/-- Two slots share no address (R61). -/
theorem slots_disjoint {i j k l : Nat} (hij : i ≠ j) (hk : k < cfg.slotWords) (hl : l < cfg.slotWords) :
    slotBase cfg i + k ≠ slotBase cfg j + l := by
  simp only [slotBase]
  rcases Nat.lt_or_gt_of_ne hij with h | h
  · have : (i + 1) * cfg.slotWords ≤ j * cfg.slotWords := Nat.mul_le_mul_right _ h
    rw [Nat.add_mul] at this; omega
  · have : (j + 1) * cfg.slotWords ≤ i * cfg.slotWords := Nat.mul_le_mul_right _ h
    rw [Nat.add_mul] at this; omega

/-- The back slot of a queue with a free slot is none of the occupied ones. -/
theorem back_not_occupied {size front used j : Nat} (hj : j < used) (hu : used < size) :
    (front + j) % size ≠ (front + used) % size := by
  intro h
  have := (Nat.ModEq.add_left_cancel' front (h : front + j ≡ front + used [MOD size]))
  have h2 : j % size = used % size := this
  rw [Nat.mod_eq_of_lt (by omega), Nat.mod_eq_of_lt hu] at h2
  omega

end Sys2Proof.Machine
end

