-- ==== Sys2Proof/Laws/Invariant.lean ====
section
/-!
SUPPORT. What the queue primitives keep of the invariant's queue part (`QueueOk`, `BufferOk`): one lemma per primitive, for
a queue that meets the primitive's precondition.
-/

namespace Sys2Proof.Machine

variable {cfg : Config} {words : Nat} {q q' : Queue} {mem mem' : Memory}

/-- Moving an index on by one past `a` steps. -/
theorem add_mod_succ (f a n : Nat) : ((f + a) % n + 1) % n = (f + (a + 1)) % n := by
  rw [Nat.mod_add_mod, Nat.add_assoc]

/-- Moving the front on by `d` and reducing the count by `d` leaves the end where it was. -/
theorem front_shift (f d a n : Nat) : ((f + d) % n + a) % n = (f + (d + a)) % n := by
  rw [Nat.mod_add_mod, Nat.add_assoc]

/-- A queue that holds or can hold a packet has slots. -/
theorem size_pos_of_used (h : queueUsed q ≠ 0) : 0 < q.size := by
  unfold queueUsed at h; omega

/-- `pop_front` keeps a queue's registers in order (R130, R133). -/
theorem queueOk_popFront (hq : QueueOk cfg words q) (h : popFront q = .ok q') : QueueOk cfg words q' := by
  obtain ⟨hu, rfl⟩ := (popFront_eq_ok ..).mp h
  obtain ⟨hs, ha, hw, hi, h0⟩ := hq
  have hpos := size_pos_of_used hu
  obtain ⟨hf, hb, hwi⟩ := hi hpos
  simp only [queueUsed] at hu hw hb ⊢
  refine ⟨hs, by simp only; omega, by simp only [queueUsed]; omega, fun _ => ⟨Nat.mod_lt _ hpos, ?_, ?_⟩, fun h => absurd h (by simp only; omega)⟩
  · simp only [queueUsed]
    rw [front_shift, hb]
    congr 2; omega
  · simp only
    split
    · rw [front_shift, hwi]; congr 2; omega
    · rw [show q.windowSize - 1 = 0 by omega, Nat.add_zero]; exact (Nat.mod_mod _ _).symm

/-- `pop_front` keeps the window of a queue without one where it is (R51.4). -/
theorem windowSize_popFront (h : popFront q = .ok q') : q'.windowSize = q.windowSize - 1 := by
  obtain ⟨_, rfl⟩ := (popFront_eq_ok ..).mp h; rfl

/-- The slots a queue still occupies after its front moved on by `d`. -/
theorem bufferOk_shift (hb : BufferOk cfg q mem) {d : Nat} (hd : d ≤ queueUsed q)
    (hsize : q'.size = q.size) (hfront : q'.frontIndex = (q.frontIndex + d) % q.size)
    (hused : queueUsed q' = queueUsed q - d) : BufferOk cfg q' mem := by
  refine ⟨hb.1, fun j hj => ?_⟩
  have := hb.2 (d + j) (by omega)
  rwa [hfront, hsize, front_shift]

/-- `pop_front` keeps the buffer's part (R77: the other slots keep their contents). -/
theorem bufferOk_popFront (hb : BufferOk cfg q mem) (h : popFront q = .ok q') : BufferOk cfg q' mem := by
  obtain ⟨hu, rfl⟩ := (popFront_eq_ok ..).mp h
  refine bufferOk_shift hb (d := 1) (by omega) rfl rfl ?_
  simp only [queueUsed]; omega

/-- The retirement of `d` window packets keeps a queue's registers in order (R238). -/
theorem queueOk_popFrontMany {d : Nat} (hq : QueueOk cfg words q) (hd : d ≤ q.windowSize)
    (h : popFrontMany q d = .ok q') : QueueOk cfg words q' := by
  rcases (popFrontMany_eq_ok ..).mp h with ⟨-, rfl⟩ | ⟨h0, hu, rfl⟩
  · exact hq
  · obtain ⟨hs, ha, hw, hi, -⟩ := hq
    have hpos := size_pos_of_used (q := q) (by omega)
    obtain ⟨hf, hb, hwi⟩ := hi hpos
    simp only [queueUsed] at hu hw hb ⊢
    refine ⟨hs, by simp only; omega, by simp only [queueUsed]; omega, fun _ => ⟨Nat.mod_lt _ hpos, ?_, ?_⟩,
      fun h => absurd h (by simp only; omega)⟩
    · simp only [queueUsed]; rw [front_shift, hb]; congr 2; omega
    · simp only; rw [front_shift, hwi]; congr 2; omega

/-- The retirement of `d` window packets keeps the buffer's part. -/
theorem bufferOk_popFrontMany {d : Nat} (hb : BufferOk cfg q mem) (h : popFrontMany q d = .ok q') :
    BufferOk cfg q' mem := by
  rcases (popFrontMany_eq_ok ..).mp h with ⟨-, rfl⟩ | ⟨h0, hu, rfl⟩
  · exact hb
  · refine bufferOk_shift hb hu rfl rfl ?_
    simp only [queueUsed] at hu ⊢; omega

/-- The retirement of the packets a LINK_RESPONSE reports never fails on a queue in order (R131, R238). -/
theorem popFrontMany_isOk {d : Nat} (hq : QueueOk cfg words q) (hd : d ≤ q.windowSize) :
    ∃ q', popFrontMany q d = .ok q' := by
  have := hq.2.2.1
  unfold popFrontMany
  by_cases h : d = 0
  · exact ⟨q, by simp [h]⟩
  · exact ⟨_, by rw [if_neg h, if_neg (by omega)]⟩

/-- `window_reset` keeps a queue's registers in order (R129). -/
theorem queueOk_windowReset (hq : QueueOk cfg words q) : QueueOk cfg words (windowReset q) := by
  obtain ⟨hs, ha, hw, hi, h0⟩ := hq
  refine ⟨hs, ha, Nat.zero_le _, fun h => ⟨(hi h).1, (hi h).2.1, ?_⟩, fun h => ⟨(h0 h).1, (h0 h).2.1, (h0 h).1⟩⟩
  simp only [windowReset, Nat.add_zero]
  exact (Nat.mod_eq_of_lt (hi h).1).symm

/-- `window_advance` keeps a queue's registers in order (R128). -/
theorem queueOk_windowAdvance (hq : QueueOk cfg words q) (h : windowAdvance q = .ok q') : QueueOk cfg words q' := by
  obtain ⟨hw0, rfl⟩ := (windowAdvance_eq_ok ..).mp h
  obtain ⟨hs, ha, hw, hi, h0⟩ := hq
  simp only [windowAvailable, queueUsed] at *
  refine ⟨hs, ha, by simp only [queueUsed]; omega, fun h => ⟨(hi h).1, (hi h).2.1, ?_⟩, fun h => absurd h (by simp only; omega)⟩
  simp only
  rw [(hi h).2.2, add_mod_succ]

/-- Filling the back slot keeps a queue's registers in order (R125, R134). -/
theorem queueOk_fillBack (hq : QueueOk cfg words q) (ha0 : q.available ≠ 0)
    (h : q' = { q with backIndex := (q.backIndex + 1) % q.size, available := q.available - 1 }) :
    QueueOk cfg words q' := by
  subst h
  obtain ⟨hs, ha, hw, hi, -⟩ := hq
  have hpos : 0 < q.size := by omega
  obtain ⟨hf, hb, hwi⟩ := hi hpos
  simp only [queueUsed] at *
  refine ⟨hs, by simp only; omega, by simp only [queueUsed]; omega, fun _ => ⟨hf, ?_, hwi⟩, fun h => absurd h (by simp only; omega)⟩
  simp only [queueUsed]
  rw [hb, add_mod_succ]; congr 2; omega

/-- A slot whose words are as before still holds its packet. -/
theorem slotHolds_congr {i : Nat} (h : ∀ k < cfg.slotWords, bufRead mem' (slotBase cfg i + k) = bufRead mem (slotBase cfg i + k))
    (hs : SlotHolds cfg mem i) : SlotHolds cfg mem' i := by
  have hlen : packetLength cfg mem' i = packetLength cfg mem i := by
    have := h 0 (by simp [Config.slotWords])
    simp only [packetLength]; rw [show slotBase cfg i = slotBase cfg i + 0 from rfl, this]
  obtain ⟨h1, h2, h3⟩ := hs
  refine ⟨by omega, by omega, fun k hk => ?_⟩
  have := h (1 + k) (by simp only [Config.slotWords]; omega)
  rw [Nat.add_assoc, this, ← Nat.add_assoc]
  exact h3 k (by omega)

/-- Writing inside the back slot and filling it keeps the buffer's part, if the back slot then holds a packet. -/
theorem bufferOk_fillBack (hq : QueueOk cfg words q) (hb : BufferOk cfg q mem) (ha0 : q.available ≠ 0)
    (h : q' = { q with backIndex := (q.backIndex + 1) % q.size, available := q.available - 1 })
    (hwf : Memory.wf mem')
    (hother : ∀ b, (∀ k < cfg.slotWords, b ≠ slotBase cfg q.backIndex + k) → bufRead mem' b = bufRead mem b)
    (hback : SlotHolds cfg mem' q.backIndex) : BufferOk cfg q' mem' := by
  subst h
  obtain ⟨hs, ha, hw, hi, -⟩ := hq
  have hpos : 0 < q.size := by omega
  obtain ⟨hf, hbk, hwi⟩ := hi hpos
  refine ⟨hwf, fun j hj => ?_⟩
  have hj' : j < queueUsed q + 1 := by simp only [queueUsed] at hj ⊢; omega
  have hu : queueUsed q < q.size := by simp only [queueUsed]; omega
  by_cases hlast : j = queueUsed q
  · subst hlast; rw [← hbk]; exact hback
  · refine slotHolds_congr (fun k hk => hother _ fun l hl => ?_) (hb.2 j (by omega))
    refine slots_disjoint cfg ?_ hk hl
    rw [hbk]
    exact back_not_occupied (by omega) hu

/-- Writing inside the back slot of a queue with a free slot keeps the buffer's part. -/
theorem bufferOk_writeBack (hq : QueueOk cfg words q) (hb : BufferOk cfg q mem) (ha0 : q.available ≠ 0)
    (hwf : Memory.wf mem')
    (hother : ∀ b, (∀ k < cfg.slotWords, b ≠ slotBase cfg q.backIndex + k) → bufRead mem' b = bufRead mem b) :
    BufferOk cfg q mem' := by
  obtain ⟨hs, ha, hw, hi, -⟩ := hq
  have hpos : 0 < q.size := by omega
  obtain ⟨hf, hbk, hwi⟩ := hi hpos
  refine ⟨hwf, fun j hj => ?_⟩
  simp only [queueUsed] at *
  refine slotHolds_congr (fun k hk => hother _ fun l hl => ?_) (hb.2 j hj)
  refine slots_disjoint cfg ?_ hk hl
  rw [hbk]
  exact back_not_occupied hj (by omega)

/-- The back slot of a queue with a free slot is one of its slots. -/
theorem backIndex_lt (hq : QueueOk cfg words q) (ha0 : q.available ≠ 0) : q.backIndex < q.size := by
  obtain ⟨-, ha, -, hi, -⟩ := hq
  have hpos : 0 < q.size := by omega
  rw [(hi hpos).2.1]; exact Nat.mod_lt _ hpos

/-- The packet of an occupied slot can be read, and it has the slot's length (R126, R127). -/
theorem slotPacket_isOk {i : Nat} (hi : i < q.size) (hs : SlotHolds cfg mem i) :
    ∃ pkt, slotPacket cfg q mem i = .ok pkt ∧ pkt.length = packetLength cfg mem i := by
  obtain ⟨h1, h2, h3⟩ := hs
  have hlen : ∃ len, bufRead mem (slotBase cfg i) = some len ∧ packetLength cfg mem i = len.toNat := by
    cases h : bufRead mem (slotBase cfg i) with
    | none => simp [packetLength, h] at h1
    | some len => exact ⟨len, rfl, by simp [packetLength, h]⟩
  obtain ⟨len, hl, hll⟩ := hlen
  have hlim : ∀ k < cfg.slotWords, slotBase cfg i + k < slotLimit cfg q := fun k hk => slot_in_limit cfg q hi hk
  have hslot : cfg.slotWords = cfg.m + 1 := rfl
  let pkt : Packet := (List.range len.toNat).map fun k => (bufRead mem (slotBase cfg i + 1 + k)).getD 0#32
  refine ⟨pkt, (slotPacket_eq_ok ..).mpr ⟨⟨by simpa using hlim 0 (by omega), len, hl, by simp [pkt]⟩, fun k hk => ?_⟩,
    by simp [pkt, hll]⟩
  have hk' : k < len.toNat := by simpa [pkt] using hk
  refine ⟨by have := hlim (1 + k) (by omega); omega, ?_⟩
  have hsome := h3 k (by omega)
  obtain ⟨w, hw⟩ := Option.isSome_iff_exists.mp hsome
  simp [pkt, hk', hw]

/-- `init` leaves a queue in order (R120). -/
theorem queueOk_queueInit (cfg : Config) (words : Nat) : QueueOk cfg words (queueInit words cfg.slotWords) := by
  simp [QueueOk, queueInit, queueUsed]

/-- A queue after `init` occupies no slot (R120). -/
theorem bufferOk_queueInit (cfg : Config) (words : Nat) (hwf : Memory.wf mem) :
    BufferOk cfg (queueInit words cfg.slotWords) mem := by
  simp [BufferOk, queueInit, queueUsed, hwf]

end Sys2Proof.Machine
end

