-- ==== Sys2Proof/Laws/PerInstr.lean ====
section
/-!
SUPPORT. For every instruction: what it is encoded as has the opcode table's match for it under the table's mask. One
lemma per constructor.
-/

namespace Sys2Proof.Laws

/-- The input that a well-formed instruction is encoded as is one of its row of spec/opcode_table.json. -/
def EncodedRow.Statement (i : Instr) : Prop := WellFormed i = true → rowMatches (opcodeRow i) (encode i) = true

/-- The stype0 bits of a body (R85). -/
theorem bodyOf_and_stype0 (f : ControlFields) :
    bodyOf f &&& 0xE00000#24 = f.stype0.setWidth 24 <<< 21 := by
  apply BitVec.eq_of_getLsbD_eq
  intro i hi
  simp only [BitVec.getLsbD_and, getLsbD_bodyOf, BitVec.getLsbD_shiftLeft, BitVec.getLsbD_setWidth]
  interval_cases i <;> simp

/-- The stype1 bits of a body (R85). -/
theorem bodyOf_and_stype1 (f : ControlFields) :
    bodyOf f &&& 0x000700#24 = f.stype1.setWidth 24 <<< 8 := by
  apply BitVec.eq_of_getLsbD_eq
  intro i hi
  simp only [BitVec.getLsbD_and, getLsbD_bodyOf, BitVec.getLsbD_shiftLeft, BitVec.getLsbD_setWidth]
  interval_cases i <;> simp

/-- The stype1 and cmd bits of a body (R85, R88). -/
theorem bodyOf_and_stype1_cmd (f : ControlFields) :
    bodyOf f &&& 0x0007E0#24 = f.stype1.setWidth 24 <<< 8 ||| f.cmd.setWidth 24 <<< 5 := by
  apply BitVec.eq_of_getLsbD_eq
  intro i hi
  simp only [BitVec.getLsbD_and, BitVec.getLsbD_or, getLsbD_bodyOf, BitVec.getLsbD_shiftLeft, BitVec.getLsbD_setWidth]
  interval_cases i <;> simp

namespace EncodedRow

theorem openOp : Statement .openOp := fun _ => by decide

theorem portSetTime (t : Word) : Statement (.portSetTime t) :=
  fun _ => by simp [rowMatches, opcodeRow, encode, inputFormat, inputBits, encodeOpArg, requestOf]

theorem portSetTimeout (dt : Word) : Statement (.portSetTimeout dt) :=
  fun _ => by simp [rowMatches, opcodeRow, encode, inputFormat, inputBits, encodeOpArg, requestOf]

theorem portSetStatus (arg : Word) : Statement (.portSetStatus arg) :=
  fun _ => by simp [rowMatches, opcodeRow, encode, inputFormat, inputBits, encodeOpArg, requestOf]

theorem portAddSymbol (sym : Symbol) : Statement (.portAddSymbol sym) :=
  fun _ => by simp [rowMatches, opcodeRow, encode, inputFormat, inputBits, requestOf]

theorem portGetSymbol : Statement .portGetSymbol := fun _ => by decide

theorem setOutboundPacket (pkt : Packet) : Statement (.setOutboundPacket pkt) :=
  fun _ => by simp [rowMatches, opcodeRow, encode, inputFormat, inputBits, requestOf]

theorem getInboundPacket : Statement .getInboundPacket := fun _ => by decide

theorem getInboundQueueLength : Statement .getInboundQueueLength := fun _ => by decide

theorem getInboundQueueAvailable : Statement .getInboundQueueAvailable := fun _ => by decide

theorem getOutboundQueueLength : Statement .getOutboundQueueLength := fun _ => by decide

theorem getOutboundQueueAvailable : Statement .getOutboundQueueAvailable := fun _ => by decide

theorem getLinkIsInitialized : Statement .getLinkIsInitialized := fun _ => by decide

theorem getStatus : Statement .getStatus := fun _ => by decide

theorem getCounter (id : Word) : Statement (.getCounter id) :=
  fun _ => by simp [rowMatches, opcodeRow, encode, inputFormat, inputBits, encodeOpArg, requestOf]

theorem reservedOp0F : Statement .reservedOp0F := fun _ => by decide

theorem reservedOp10To1F (op : BitVec 8) : Statement (.reservedOp10To1F op) := fun hw => by revert hw; revert op; decide

theorem reservedOp20To3F (op : BitVec 8) : Statement (.reservedOp20To3F op) := fun hw => by revert hw; revert op; decide

theorem reservedOp40To7F (op : BitVec 8) : Statement (.reservedOp40To7F op) := fun hw => by revert hw; revert op; decide

theorem reservedOp80ToFF (op : BitVec 8) : Statement (.reservedOp80ToFF op) := fun hw => by revert hw; revert op; decide

theorem symIdle : Statement .symIdle := fun _ => by decide

theorem symControl (c : Body) : Statement (.symControl c) :=
  fun _ => by simp [rowMatches, opcodeRow, encode, inputFormat, inputBits, encodeSymbol, symbolTag]

theorem symData (w : Word) : Statement (.symData w) :=
  fun _ => by simp [rowMatches, opcodeRow, encode, inputFormat, inputBits, encodeSymbol, symbolTag]

theorem symError : Statement .symError := fun _ => by decide

theorem packetAccepted (param0 param1 : Field5) (stype1 cmd : Field3) (crc : Field5) :
    Statement (.packetAccepted param0 param1 stype1 cmd crc) :=
  fun _ => by simp [rowMatches, opcodeRow, encode, encodeStype0, inputFormat, inputBits, bodyOf_and_stype0]

theorem packetRetry (param0 param1 : Field5) (stype1 cmd : Field3) (crc : Field5) :
    Statement (.packetRetry param0 param1 stype1 cmd crc) :=
  fun _ => by simp [rowMatches, opcodeRow, encode, encodeStype0, inputFormat, inputBits, bodyOf_and_stype0]

theorem packetNotAccepted (param0 param1 : Field5) (stype1 cmd : Field3) (crc : Field5) :
    Statement (.packetNotAccepted param0 param1 stype1 cmd crc) :=
  fun _ => by simp [rowMatches, opcodeRow, encode, encodeStype0, inputFormat, inputBits, bodyOf_and_stype0]

theorem status (param0 param1 : Field5) (stype1 cmd : Field3) (crc : Field5) :
    Statement (.status param0 param1 stype1 cmd crc) :=
  fun _ => by simp [rowMatches, opcodeRow, encode, encodeStype0, inputFormat, inputBits, bodyOf_and_stype0]

theorem linkResponse (param0 param1 : Field5) (stype1 cmd : Field3) (crc : Field5) :
    Statement (.linkResponse param0 param1 stype1 cmd crc) :=
  fun _ => by simp [rowMatches, opcodeRow, encode, encodeStype0, inputFormat, inputBits, bodyOf_and_stype0]

theorem stype0Reserved3 (param0 param1 : Field5) (stype1 cmd : Field3) (crc : Field5) :
    Statement (.stype0Reserved3 param0 param1 stype1 cmd crc) :=
  fun _ => by simp [rowMatches, opcodeRow, encode, encodeStype0, inputFormat, inputBits, bodyOf_and_stype0]

theorem stype0Reserved6 (param0 param1 : Field5) (stype1 cmd : Field3) (crc : Field5) :
    Statement (.stype0Reserved6 param0 param1 stype1 cmd crc) :=
  fun _ => by simp [rowMatches, opcodeRow, encode, encodeStype0, inputFormat, inputBits, bodyOf_and_stype0]

theorem stype0Reserved7 (param0 param1 : Field5) (stype1 cmd : Field3) (crc : Field5) :
    Statement (.stype0Reserved7 param0 param1 stype1 cmd crc) :=
  fun _ => by simp [rowMatches, opcodeRow, encode, encodeStype0, inputFormat, inputBits, bodyOf_and_stype0]

theorem startOfPacket (stype0 : Field3) (param0 param1 : Field5) (cmd : Field3) (crc : Field5) :
    Statement (.startOfPacket stype0 param0 param1 cmd crc) :=
  fun _ => by simp [rowMatches, opcodeRow, encode, encodeStype1, inputFormat, inputBits, bodyOf_and_stype1]

theorem stomp (stype0 : Field3) (param0 param1 : Field5) (cmd : Field3) (crc : Field5) :
    Statement (.stomp stype0 param0 param1 cmd crc) :=
  fun _ => by simp [rowMatches, opcodeRow, encode, encodeStype1, inputFormat, inputBits, bodyOf_and_stype1]

theorem endOfPacket (stype0 : Field3) (param0 param1 : Field5) (cmd : Field3) (crc : Field5) :
    Statement (.endOfPacket stype0 param0 param1 cmd crc) :=
  fun _ => by simp [rowMatches, opcodeRow, encode, encodeStype1, inputFormat, inputBits, bodyOf_and_stype1]

theorem restartFromRetry (stype0 : Field3) (param0 param1 : Field5) (cmd : Field3) (crc : Field5) :
    Statement (.restartFromRetry stype0 param0 param1 cmd crc) :=
  fun _ => by simp [rowMatches, opcodeRow, encode, encodeStype1, inputFormat, inputBits, bodyOf_and_stype1]

theorem multicastEvent (stype0 : Field3) (param0 param1 : Field5) (cmd : Field3) (crc : Field5) :
    Statement (.multicastEvent stype0 param0 param1 cmd crc) :=
  fun _ => by simp [rowMatches, opcodeRow, encode, encodeStype1, inputFormat, inputBits, bodyOf_and_stype1]

theorem nop (stype0 : Field3) (param0 param1 : Field5) (cmd : Field3) (crc : Field5) :
    Statement (.nop stype0 param0 param1 cmd crc) :=
  fun _ => by simp [rowMatches, opcodeRow, encode, encodeStype1, inputFormat, inputBits, bodyOf_and_stype1]

theorem linkRequestInputStatus (stype0 : Field3) (param0 param1 : Field5) (crc : Field5) :
    Statement (.linkRequestInputStatus stype0 param0 param1 crc) :=
  fun _ => by simp [rowMatches, opcodeRow, encode, encodeStype1, inputFormat, inputBits, bodyOf_and_stype1_cmd]

theorem linkRequestCmd0 (stype0 : Field3) (param0 param1 : Field5) (crc : Field5) :
    Statement (.linkRequestCmd0 stype0 param0 param1 crc) :=
  fun _ => by simp [rowMatches, opcodeRow, encode, encodeStype1, inputFormat, inputBits, bodyOf_and_stype1_cmd]

theorem linkRequestCmd1 (stype0 : Field3) (param0 param1 : Field5) (crc : Field5) :
    Statement (.linkRequestCmd1 stype0 param0 param1 crc) :=
  fun _ => by simp [rowMatches, opcodeRow, encode, encodeStype1, inputFormat, inputBits, bodyOf_and_stype1_cmd]

theorem linkRequestCmd2 (stype0 : Field3) (param0 param1 : Field5) (crc : Field5) :
    Statement (.linkRequestCmd2 stype0 param0 param1 crc) :=
  fun _ => by simp [rowMatches, opcodeRow, encode, encodeStype1, inputFormat, inputBits, bodyOf_and_stype1_cmd]

theorem linkRequestCmd3 (stype0 : Field3) (param0 param1 : Field5) (crc : Field5) :
    Statement (.linkRequestCmd3 stype0 param0 param1 crc) :=
  fun _ => by simp [rowMatches, opcodeRow, encode, encodeStype1, inputFormat, inputBits, bodyOf_and_stype1_cmd]

theorem linkRequestCmd5 (stype0 : Field3) (param0 param1 : Field5) (crc : Field5) :
    Statement (.linkRequestCmd5 stype0 param0 param1 crc) :=
  fun _ => by simp [rowMatches, opcodeRow, encode, encodeStype1, inputFormat, inputBits, bodyOf_and_stype1_cmd]

theorem linkRequestCmd6 (stype0 : Field3) (param0 param1 : Field5) (crc : Field5) :
    Statement (.linkRequestCmd6 stype0 param0 param1 crc) :=
  fun _ => by simp [rowMatches, opcodeRow, encode, encodeStype1, inputFormat, inputBits, bodyOf_and_stype1_cmd]

theorem linkRequestCmd7 (stype0 : Field3) (param0 param1 : Field5) (crc : Field5) :
    Statement (.linkRequestCmd7 stype0 param0 param1 crc) :=
  fun _ => by simp [rowMatches, opcodeRow, encode, encodeStype1, inputFormat, inputBits, bodyOf_and_stype1_cmd]

theorem stype1Reserved6 (stype0 : Field3) (param0 param1 : Field5) (cmd : Field3) (crc : Field5) :
    Statement (.stype1Reserved6 stype0 param0 param1 cmd crc) :=
  fun _ => by simp [rowMatches, opcodeRow, encode, encodeStype1, inputFormat, inputBits, bodyOf_and_stype1]

end EncodedRow

end Sys2Proof.Laws
end

