-- ==== Sys2Proof/Laws/Receiver.lean ====
section
/-!
SUPPORT. What each shared operation of the receiver, and each acknowledgement handler of the transmitter, can do: one
inversion lemma per operation, to be cited instead of unfolding it.
-/

namespace Sys2Proof.Machine

variable {s t : State}

/-- `finish` answers a next state exactly for an operation that met no fault. -/
theorem finish_eq_next {r : Except Fault State} :
    finish r = .next t ↔ ∃ u, r = .ok u ∧ t = { u with response := Response.plain } := by
  cases r with
  | error e => simp [finish]
  | ok u =>
    constructor
    · intro h
      simp only [finish, respond, Host.Outcome.next.injEq] at h
      exact ⟨u, rfl, h.symm⟩
    · rintro ⟨u', h, rfl⟩
      cases h
      rfl

/-- The gate of R171 in a port that is down. -/
theorem whenPortUp_down {handle : State → Except Fault State} (h : s.rx.state = .uninitialized) :
    whenPortUp handle s = .ok s := by simp [whenPortUp, h]

/-- The gate of R171 in a port that is up. -/
theorem whenPortUp_up {handle : State → Except Fault State} (h : s.rx.state ≠ .uninitialized) :
    whenPortUp handle s = handle s := by simp [whenPortUp, h]

/-- A control symbol in a port that is up either has a bad CRC-5, or runs its stype0 half, its stype1 half and the count
of unsupported symbols (R175, R176). -/
theorem controlSymbolWith_eq_ok {f : ControlFields} {h0 h1 : State → Except Fault State} :
    controlSymbolWith f h0 h1 s = .ok t ↔
      (crcGood (bodyOf f) = false ∧ t = badCrcSymbol s) ∨
      (crcGood (bodyOf f) = true ∧
        ∃ u v, stype0Step f h0 s = .ok u ∧ h1 u = .ok v ∧ t = countUnsupported f v) := by
  unfold controlSymbolWith goodSymbol
  cases hc : crcGood (bodyOf f) with
  | false => simp [eq_comm]
  | true =>
    cases h : stype0Step f h0 s with
    | error e => simp
    | ok u =>
      cases h' : h1 u with
      | error e => simp [h']
      | ok v => simp [h', eq_comm]

/-- The stype0 half of an SOP is its buf_status alone (R90). -/
theorem stype0Step_sop {f : ControlFields} {half : State → Except Fault State} (h : f.stype1 = stype1Sop) :
    stype0Step f half s = .ok (setBufferStatus f.param1 s) := by simp [stype0Step, h]

/-- The stype0 half of a symbol that is no SOP (R176). -/
theorem stype0Step_half {f : ControlFields} {half : State → Except Fault State} (h : f.stype1 ≠ stype1Sop) :
    stype0Step f half s = half s := by simp [stype0Step, h]

/-- The count of unsupported symbols writes one counter at most (R177). -/
theorem countUnsupported_eq (f : ControlFields) :
    countUnsupported f s = s ∨ countUnsupported f s = inc .inboundErrorPacketUnsupported s := by
  unfold countUnsupported; split
  · exact .inr rfl
  · exact .inl rfl

/-- What `commit()` does (R194). -/
theorem commitPacket_eq_ok (h : commitPacket s = .ok t) :
    ∃ q mem, commitBack s.cfg s.rxq s.rxbuf s.rx.counter = .ok (q, mem) ∧
      t = inc .inboundComplete
        { s with
          rxq := q
          rxbuf := mem
          rx := { s.rx with ackid := s.rx.ackid + 1#5, receiving := false, counter := 0 } } := by
  unfold commitPacket at h
  split at h
  · cases h
  · rename_i q mem hc
    exact ⟨q, mem, hc, by cases h; rfl⟩

/-- What a data symbol does (R174). -/
theorem dataSymbol_eq_ok {w : Word} (h : dataSymbol w s = .ok t) :
    (s.rx.state ≠ .linkInitialized ∧ t = s) ∨
    (s.rx.state = .linkInitialized ∧ (s.rx.receiving = false ∨ s.rx.counter = s.cfg.m) ∧
      t = inputError causeGeneral (inc .inboundErrorGeneral s)) ∨
    (s.rx.state = .linkInitialized ∧ s.rx.receiving = true ∧ s.rx.counter ≠ s.cfg.m ∧
      ∃ mem, stageWord s.cfg s.rxq s.rxbuf s.rx.counter w = .ok mem ∧
        t = { s with
          rxbuf := mem
          rx := { s.rx with
            crc := crc16Word (crc16Covered s.cfg s.rx.counter w) s.rx.crc
            counter := s.rx.counter + 1 } }) := by
  unfold dataSymbol at h
  split at h
  · exact .inl ⟨‹_›, by cases h; rfl⟩
  · rename_i hs
    have hs := not_not.mp hs
    split at h
    · exact .inr (.inl ⟨hs, ‹_›, by cases h; rfl⟩)
    · rename_i hc
      simp only [not_or, Bool.not_eq_false] at hc
      split at h
      · cases h
      · rename_i mem hm
        exact .inr (.inr ⟨hs, hc.1, hc.2, mem, hm, by cases h; rfl⟩)

/-- What an END_OF_PACKET does (R186). -/
theorem onEop_eq_ok (h : onEop s = .ok t) :
    (s.rx.state ≠ .linkInitialized ∧ t = s) ∨
    (s.rx.state = .linkInitialized ∧ (s.rx.receiving = false ∨ s.rx.counter = 0) ∧
      t = inputError causeGeneral (inc .inboundErrorGeneral s)) ∨
    (s.rx.state = .linkInitialized ∧ s.rx.receiving = true ∧ s.rx.counter ≠ 0 ∧ s.rx.crc ≠ 0#16 ∧
      t = inputError causePacketCrc (inc .inboundErrorPacketCrc s)) ∨
    (s.rx.state = .linkInitialized ∧ s.rx.receiving = true ∧ s.rx.counter ≠ 0 ∧ s.rx.crc = 0#16 ∧
      commitPacket s = .ok t) := by
  unfold onEop at h
  split at h
  · exact .inl ⟨‹_›, by cases h; rfl⟩
  · rename_i hs
    have hs := not_not.mp hs
    split at h
    · exact .inr (.inl ⟨hs, ‹_›, by cases h; rfl⟩)
    · rename_i hc
      simp only [not_or, Bool.not_eq_false] at hc
      split at h
      · exact .inr (.inr (.inl ⟨hs, hc.1, hc.2, ‹_›, by cases h; rfl⟩))
      · rename_i hz
        exact .inr (.inr (.inr ⟨hs, hc.1, hc.2, not_not.mp hz, h⟩))

/-- What the start of a packet does (R184). -/
theorem startPacket_eq (a : Field5) :
    (a ≠ s.rx.ackid ∧ startPacket a s = inputError causeUnexpectedAckid (inc .inboundErrorPacketAckid s)) ∨
    (a = s.rx.ackid ∧ s.rxq.available = 0 ∧ startPacket a s = inputRetry s) ∨
    (a = s.rx.ackid ∧ s.rxq.available ≠ 0 ∧
      startPacket a s = { s with rx := { s.rx with receiving := true, counter := 0, crc := 0xFFFF#16 } }) := by
  unfold startPacket
  split
  · exact .inl ⟨‹_›, rfl⟩
  · rename_i ha
    split
    · exact .inr (.inl ⟨not_not.mp ha, ‹_›, rfl⟩)
    · exact .inr (.inr ⟨not_not.mp ha, ‹_›, rfl⟩)

/-- What an SOP does (R184): a packet in progress is ended first. -/
theorem onSop_eq_ok {a : Field5} (h : onSop a s = .ok t) :
    (s.rx.state ≠ .linkInitialized ∧ t = s) ∨
    (s.rx.state = .linkInitialized ∧ s.rx.receiving = false ∧ t = startPacket a s) ∨
    (s.rx.state = .linkInitialized ∧ s.rx.receiving = true ∧
      ∃ v, onEop s = .ok v ∧
        ((v.rx.state ≠ .linkInitialized ∧ t = v) ∨ (v.rx.state = .linkInitialized ∧ t = startPacket a v))) := by
  unfold onSop at h
  split at h
  · exact .inl ⟨‹_›, by cases h; rfl⟩
  · rename_i hs
    have hs := not_not.mp hs
    split at h
    · rename_i hr
      split at h
      · cases h
      · rename_i v hv
        refine .inr (.inr ⟨hs, hr, v, hv, ?_⟩)
        split at h
        · exact .inl ⟨‹_›, by cases h; rfl⟩
        · rename_i hv'
          exact .inr ⟨not_not.mp hv', by cases h; rfl⟩
    · rename_i hr
      exact .inr (.inl ⟨hs, by simpa using hr, by cases h; rfl⟩)

/-- What a PACKET_ACCEPTED does to the transmitter (R235). -/
theorem onAccepted_eq_ok {a : Field5} (h : onAccepted a s = .ok t) :
    (outputActive s = false ∧ t = s) ∨
    (outputActive s = true ∧ a = s.tx.ackid ∧ 0 < s.txq.windowSize ∧
      ∃ q, popFront s.txq = .ok q ∧
        t = inc .outboundComplete
          { recordLatency (elapsedSince s (frameStamp s.tx a)) s with
            txq := q
            tx := { s.tx with ackid := s.tx.ackid + 1#5 } }) ∨
    (outputActive s = true ∧ ¬ (a = s.tx.ackid ∧ 0 < s.txq.windowSize) ∧
      t = outputError (inc .outboundErrorPacketAccepted s)) := by
  have htx : ∀ l, (recordLatency l s).tx = s.tx := by
    intro l; unfold recordLatency; split <;> rfl
  unfold onAccepted at h
  split at h
  · exact .inl ⟨‹_›, by cases h; rfl⟩
  · rename_i ha
    have ha : outputActive s = true := by simpa using ha
    split at h
    · rename_i hc
      split at h
      · cases h
      · rename_i q hq
        exact .inr (.inl ⟨ha, hc.1, hc.2, q, hq, by cases h; simp only [htx]⟩)
    · exact .inr (.inr ⟨ha, ‹_›, by cases h; rfl⟩)

/-- What a PACKET_RETRY does to the transmitter (R236). -/
theorem onRetry_eq (a : Field5) :
    (outputActive s = false ∧ onRetry a s = s) ∨
    (outputActive s = true ∧ a = s.tx.ackid ∧
      onRetry a s = inc .outboundRetry
        { s with
          txq := windowReset s.txq
          tx := abortFrame { s.tx with ackidWindow := s.tx.ackid, state := .outputRetryStopped } }) ∨
    (outputActive s = true ∧ a ≠ s.tx.ackid ∧ onRetry a s = outputError (inc .outboundErrorPacketRetry s)) := by
  unfold onRetry
  split
  · exact .inl ⟨‹_›, rfl⟩
  · rename_i ha
    have ha : outputActive s = true := by simpa using ha
    split
    · exact .inr (.inl ⟨ha, ‹_›, rfl⟩)
    · exact .inr (.inr ⟨ha, ‹_›, rfl⟩)

/-- What a LINK_RESPONSE does to the transmitter (R238). -/
theorem onLinkResponse_eq_ok {a : Field5} (h : onLinkResponse a s = .ok t) :
    ((s.tx.state ≠ .outputErrorStopped ∨ s.tx.lrPending = true ∨ s.txq.windowSize < deliveredCount a s) ∧ t = s) ∨
    (s.tx.state = .outputErrorStopped ∧ s.tx.lrPending = false ∧ deliveredCount a s ≤ s.txq.windowSize ∧
      ∃ q, popFrontMany s.txq (deliveredCount a s) = .ok q ∧
        t = inc .outboundRetry
          (outputRecover a (incBy .outboundComplete (deliveredCount a s) { s with txq := q }))) := by
  unfold onLinkResponse at h
  split at h
  · rename_i hs
    exact .inl ⟨hs.elim .inl (fun h => .inr (.inl h)), by cases h; rfl⟩
  · rename_i hs
    simp only [not_or, ne_eq, not_not, Bool.not_eq_true] at hs
    split at h
    · exact .inl ⟨.inr (.inr ‹_›), by cases h; rfl⟩
    · rename_i hd
      split at h
      · cases h
      · rename_i q hq
        exact .inr ⟨hs.1, hs.2, not_lt.mp hd, q, hq, by cases h; rfl⟩

end Sys2Proof.Machine
end

