-- ==== Sys2Proof/Laws/Transmitter.lean ====
section
/-!
SUPPORT. What PORT_GET_SYMBOL can do: the cases of R220 with the conditions under which each is the first to apply, and
the state each leaves.
-/

namespace Sys2Proof.Machine

variable {s t : State}

/-- Nothing of priority 1 or 2 of R220 waits. -/
abbrev Unpreempted (s : State) : Prop :=
  s.tx.state ≠ .uninitialized ∧ s.tx.mailbox = .noRequest ∧ s.rx.ackidAcked = s.rx.ackid

/-- The cases of R220: which case a result of `getSymbol` is of, and what held. -/
theorem getSymbol_eq_ok {sym : Symbol} (h : getSymbol s = .ok (t, sym)) :
    (s.tx.state = .uninitialized ∧ t = s ∧ sym = .idle) ∨
    (s.tx.state ≠ .uninitialized ∧ s.tx.mailbox ≠ .noRequest ∧ (t, sym) = mailboxSymbol s) ∨
    (s.tx.state ≠ .uninitialized ∧ s.tx.mailbox = .noRequest ∧ s.rx.ackidAcked ≠ s.rx.ackid ∧
      (t, sym) = ackSymbol s) ∨
    (Unpreempted s ∧
      ((s.tx.state = .linkInitialized ∧ 0 < s.txq.windowSize ∧ timedOut s = true ∧
          (t, sym) = timeoutLinkRequest s) ∨
        (s.tx.state = .outputErrorStopped ∧ s.tx.lrPending = false ∧ timedOut s = true ∧
          (t, sym) = repeatLinkRequest s) ∨
        (s.tx.state = .outputErrorStopped ∧ s.tx.lrPending = true ∧ (t, sym) = errorLinkRequest s) ∨
        (s.tx.state = .outputRetryStopped ∧ (t, sym) = restartSymbol s) ∨
        (s.tx.state = .portInitialized ∧ (t, sym) = statusSymbol s) ∨
        (s.tx.state = .linkInitialized ∧ ¬ (0 < s.txq.windowSize ∧ timedOut s = true) ∧
          s.tx.frameState = .start ∧ canStart s = true ∧ (t, sym) = sopSymbol s) ∨
        (s.tx.state = .linkInitialized ∧ ¬ (0 < s.txq.windowSize ∧ timedOut s = true) ∧
          s.tx.frameState = .body ∧ dataOrEopSymbol s = .ok (t, sym)) ∨
        (bufstatDue s = true ∧ (t, sym) = bufstatSymbol s) ∨
        (bufstatDue s = false ∧ t = s ∧ sym = .idle))) := by
  unfold getSymbol at h
  split at h
  · exact .inl ⟨‹_›, by cases h; exact ⟨rfl, rfl⟩⟩
  · rename_i hu
    split at h
    · exact .inr (.inl ⟨hu, ‹_›, (Except.ok.inj h).symm⟩)
    · rename_i hm
      have hm := not_not.mp hm
      split at h
      · rename_i ha
        exact .inr (.inr (.inl ⟨hu, hm, by simpa [ackPending] using ha, by cases h; rfl⟩))
      · rename_i ha
        refine .inr (.inr (.inr ⟨⟨hu, hm, by simpa [ackPending] using ha⟩, ?_⟩))
        split at h
        · rename_i hc
          exact .inl ⟨hc.1, hc.2.1, hc.2.2, by cases h; rfl⟩
        · rename_i ht
          split at h
          · rename_i hc
            exact .inr (.inl ⟨hc.1, hc.2.1, hc.2.2, by cases h; rfl⟩)
          · split at h
            · rename_i hc
              exact .inr (.inr (.inl ⟨hc.1, hc.2, by cases h; rfl⟩))
            · split at h
              · exact .inr (.inr (.inr (.inl ⟨‹_›, by cases h; rfl⟩)))
              · split at h
                · exact .inr (.inr (.inr (.inr (.inl ⟨‹_›, by cases h; rfl⟩))))
                · split at h
                  · rename_i hc
                    exact .inr (.inr (.inr (.inr (.inr (.inl
                      ⟨hc.1, fun h' => ht ⟨hc.1, h'⟩, hc.2.1, hc.2.2, by cases h; rfl⟩)))))
                  · split at h
                    · rename_i hc
                      exact .inr (.inr (.inr (.inr (.inr (.inr (.inl
                        ⟨hc.1, fun h' => ht ⟨hc.1, h'⟩, hc.2, h⟩))))))
                    · split at h
                      · exact .inr (.inr (.inr (.inr (.inr (.inr (.inr (.inl ⟨‹_›, by cases h; rfl⟩)))))))
                      · rename_i hb
                        exact .inr (.inr (.inr (.inr (.inr (.inr (.inr (.inr
                          ⟨by simpa using hb, by cases h; exact ⟨rfl, rfl⟩⟩)))))))

/-- What the body of a frame emits (R231, R232). -/
theorem dataOrEopSymbol_eq_ok {sym : Symbol} (h : dataOrEopSymbol s = .ok (t, sym)) :
    ∃ pkt, windowPacket s.cfg s.txq s.txbuf = .ok pkt ∧
      ((∃ x, pkt[s.tx.counter]? = some x ∧ sym = .data x ∧
          t = { s with tx := { s.tx with counter := s.tx.counter + 1 } }) ∨
        (pkt[s.tx.counter]? = none ∧ eopSymbol s = .ok (t, sym))) := by
  unfold dataOrEopSymbol at h
  split at h
  · cases h
  · rename_i pkt hp
    refine ⟨pkt, hp, ?_⟩
    split at h
    · rename_i x hx
      exact .inl ⟨x, hx, by cases h; exact ⟨rfl, rfl⟩⟩
    · exact .inr ⟨‹_›, h⟩

/-- What PORT_GET_SYMBOL answers (R279). -/
theorem execPortGetSymbol_eq_next :
    execPortGetSymbol s = .next t ↔
      ∃ u sym, getSymbol s = .ok (u, sym) ∧ t = { u with response := { Response.plain with sym := sym } } := by
  unfold execPortGetSymbol
  cases h : getSymbol s with
  | error e => simp
  | ok r =>
    obtain ⟨u, sym⟩ := r
    constructor
    · intro h'
      simp only [respond, Host.Outcome.next.injEq] at h'
      exact ⟨u, sym, rfl, h'.symm⟩
    · rintro ⟨u', sym', h', rfl⟩
      cases h'
      rfl

end Sys2Proof.Machine
end

