-- ==== Sys2Proof/Tests/Slice0.lean ====
section
/-!
SUPPORT. The tests: ill-formed terms, words written out from the spec's encodings, one step of every instruction with the
values of 95_test_vectors.md, and for every statement that has hypotheses a witness that they can hold together. Expected
values are the spec's; where a vector of 95_test_vectors.md is the source, the comment names it.
-/

namespace Sys2Proof.Tests

open Sys2Proof Sys2Proof.Machine

set_option Elab.async false

/-! ### Small states -/

/-- What `f` reads in the state that `i` leaves, if it leaves one. -/
def after {α : Type} (i : Instr) (s : State) (f : State → α) : Option α :=
  match exec i s with
  | .next t => some (f t)
  | .fault _ => none
  | .refused _ => none

/-- A value read after an instruction is read in a next state. -/
theorem exists_next {α : Type} {i : Instr} {s : State} {f : State → α} {a : α} (h : after i s f = some a) :
    ∃ t, exec i s = .next t ∧ f t = a := by
  unfold after at h
  split at h
  · exact ⟨_, ‹_›, Option.some.inj h⟩
  · cases h
  · cases h

/-- PORT_INIT of the vectors: OPEN with RX_WORDS = TX_WORDS = 140, PORT_SET_STATUS(1). -/
def portUp : State :=
  { State.reset with rx := rxCleared .portInitialized, tx := txCleared .portInitialized }

/-- State UP2 of 95_test_vectors.md section 0. -/
def up2 : State :=
  { State.reset with
    rx := { rxCleared .linkInitialized with statusReceived := true }
    tx := { txCleared .linkInitialized with statusCounter := 15, bufferStatus := 2#5, bufstatSent := 2#5 }
    port := { time := 0#32, timeout := 100#32 } }

/-- The S2 packet of 95_test_vectors.md section 0. -/
def s2Packet : Packet := [0x00010002#32, 0xAABBCCDD#32, 0x08E60000#32]

/-- The S2 packet in slot 0. -/
def s2Slot : Memory := [(0, 3#32), (1, 0x00010002#32), (2, 0xAABBCCDD#32), (3, 0x08E60000#32)]

/-- UP2 with the S2 packet enqueued. -/
def queued : State :=
  { up2 with
    txq := { size := 2, available := 1, windowSize := 0, frontIndex := 0, windowIndex := 0, backIndex := 1 }
    txbuf := s2Slot }

/-- `queued` with the SOP and `k` words emitted. -/
def emitting (k : Nat) : State :=
  { queued with tx := { queued.tx with frameState := .body, counter := k } }

/-- UP2 with the S2 packet sent at time 0, not acknowledged. -/
def sent : State :=
  { queued with
    txq := { queued.txq with windowSize := 1, windowIndex := 1 }
    tx := { queued.tx with ackidWindow := 1#5 } }

/-- `sent` after PACKET_NOT_ACCEPTED (V-TX-11); `lr` says whether the LINK_REQUEST is still to be emitted. -/
def outErr (lr : Bool) : State :=
  { sent with tx := { sent.tx with state := .outputErrorStopped, lrPending := lr } }

/-- UP2 after a PACKET_RETRY of its only packet. -/
def outRetry : State := { queued with tx := { queued.tx with state := .outputRetryStopped } }

/-- UP2 receiving: the SOP of ackID 0 and the three S2 words have come in. -/
def receiving : State :=
  { up2 with
    rx := { up2.rx with receiving := true, counter := 3, crc := 0#16 }
    rxbuf := s2Slot.tail }

/-- UP2 after the commit of one S2 packet, with the ACC still to be sent. -/
def received : State :=
  { up2 with
    rx := { up2.rx with ackid := 1#5 }
    rxq := { size := 2, available := 1, windowSize := 0, frontIndex := 0, windowIndex := 0, backIndex := 1 }
    rxbuf := s2Slot }

/-- UP2 with RX_WORDS = 70, its one slot taken by an S2 packet. -/
def full : State :=
  { up2 with
    cfg := { Config.standard with rxWords := 70 }
    rx := { up2.rx with ackid := 1#5 }
    rxq := { size := 1, available := 0, windowSize := 0, frontIndex := 0, windowIndex := 0, backIndex := 0 }
    rxbuf := s2Slot }

/-- `full` after the SOP of V-RX-18. -/
def inRetry : State :=
  { full with
    rx := { full.rx with state := .inputRetryStopped }
    tx := { full.tx with mailbox := .sendPacketRetry } }

/-- UP2 after a bad CRC-5 (V-RX-6). -/
def inErr : State :=
  { up2 with
    rx := { up2.rx with state := .inputErrorStopped, errorCause := 2#5 }
    tx := { up2.tx with mailbox := .sendPacketNotAccepted, mailboxParam := 2#5 } }

/-! ### The states keep the invariant -/

theorem test_inv_portUp : Inv portUp := by refine ⟨?_, ?_, ?_, ?_, ?_, ?_, ?_, ?_, ?_⟩ <;> decide
theorem test_inv_up2 : Inv up2 := by refine ⟨?_, ?_, ?_, ?_, ?_, ?_, ?_, ?_, ?_⟩ <;> decide
theorem test_inv_queued : Inv queued := by refine ⟨?_, ?_, ?_, ?_, ?_, ?_, ?_, ?_, ?_⟩ <;> decide
theorem test_inv_emitting : ∀ k ∈ [0, 3], Inv (emitting k) := by
  intro k hk
  fin_cases hk <;> refine ⟨?_, ?_, ?_, ?_, ?_, ?_, ?_, ?_, ?_⟩ <;> decide
theorem test_inv_sent : Inv sent := by refine ⟨?_, ?_, ?_, ?_, ?_, ?_, ?_, ?_, ?_⟩ <;> decide
theorem test_inv_outErr : ∀ lr, Inv (outErr lr) := by
  intro lr
  cases lr <;> refine ⟨?_, ?_, ?_, ?_, ?_, ?_, ?_, ?_, ?_⟩ <;> decide
theorem test_inv_outRetry : Inv outRetry := by refine ⟨?_, ?_, ?_, ?_, ?_, ?_, ?_, ?_, ?_⟩ <;> decide
theorem test_inv_receiving : Inv receiving := by refine ⟨?_, ?_, ?_, ?_, ?_, ?_, ?_, ?_, ?_⟩ <;> decide
theorem test_inv_received : Inv received := by refine ⟨?_, ?_, ?_, ?_, ?_, ?_, ?_, ?_, ?_⟩ <;> decide
theorem test_inv_full : Inv full := by refine ⟨?_, ?_, ?_, ?_, ?_, ?_, ?_, ?_, ?_⟩ <;> decide
theorem test_inv_inRetry : Inv inRetry := by refine ⟨?_, ?_, ?_, ?_, ?_, ?_, ?_, ?_, ?_⟩ <;> decide
theorem test_inv_inErr : Inv inErr := by refine ⟨?_, ?_, ?_, ?_, ?_, ?_, ?_, ?_, ?_⟩ <;> decide

/-! ### Ill-formed terms (R98) -/

theorem test_ill_formed_10_to_1F : ∀ op ∈ [0x0F#8, 0x20#8], WellFormed (.reservedOp10To1F op) = false := by decide
theorem test_ill_formed_20_to_3F : ∀ op ∈ [0x1F#8, 0x40#8], WellFormed (.reservedOp20To3F op) = false := by decide
theorem test_ill_formed_40_to_7F : ∀ op ∈ [0x3F#8, 0x80#8], WellFormed (.reservedOp40To7F op) = false := by decide
theorem test_ill_formed_80_to_FF : ∀ op ∈ [0x00#8, 0x7F#8], WellFormed (.reservedOp80ToFF op) = false := by decide

/-! ### Decoding of words written out from the spec -/

/-- Host operations (R97, R98). -/
theorem test_decode_host_ops :
    decode (.request ⟨0x00#8, 0#32, 0#2, 0#32, []⟩) = .openOp ∧
    decode (.request ⟨0x01#8, 0x54#32, 0#2, 0#32, []⟩) = .portSetTime 0x54#32 ∧
    decode (.request ⟨0x02#8, 100#32, 0#2, 0#32, []⟩) = .portSetTimeout 100#32 ∧
    decode (.request ⟨0x03#8, 1#32, 0#2, 0#32, []⟩) = .portSetStatus 1#32 ∧
    decode (.request ⟨0x04#8, 0#32, 1#2, 0x00801705#32, []⟩) = .portAddSymbol (.control 0x801705#24) ∧
    decode (.request ⟨0x04#8, 0#32, 2#2, 0xAABBCCDD#32, []⟩) = .portAddSymbol (.data 0xAABBCCDD#32) ∧
    decode (.request ⟨0x04#8, 0#32, 0#2, 0#32, []⟩) = .portAddSymbol .idle ∧
    decode (.request ⟨0x04#8, 0#32, 3#2, 0#32, []⟩) = .portAddSymbol .error ∧
    decode (.request ⟨0x05#8, 0#32, 0#2, 0#32, []⟩) = .portGetSymbol ∧
    decode (.request ⟨0x06#8, 0#32, 0#2, 0#32, s2Packet⟩) = .setOutboundPacket s2Packet ∧
    decode (.request ⟨0x07#8, 0#32, 0#2, 0#32, []⟩) = .getInboundPacket ∧
    decode (.request ⟨0x08#8, 0#32, 0#2, 0#32, []⟩) = .getInboundQueueLength ∧
    decode (.request ⟨0x09#8, 0#32, 0#2, 0#32, []⟩) = .getInboundQueueAvailable ∧
    decode (.request ⟨0x0A#8, 0#32, 0#2, 0#32, []⟩) = .getOutboundQueueLength ∧
    decode (.request ⟨0x0B#8, 0#32, 0#2, 0#32, []⟩) = .getOutboundQueueAvailable ∧
    decode (.request ⟨0x0C#8, 0#32, 0#2, 0#32, []⟩) = .getLinkIsInitialized ∧
    decode (.request ⟨0x0D#8, 0#32, 0#2, 0#32, []⟩) = .getStatus ∧
    decode (.request ⟨0x0E#8, 19#32, 0#2, 0#32, []⟩) = .getCounter 19#32 := by decide

/-- Reserved host operation codes, at the ends of their ranges (R98, R271). -/
theorem test_decode_reserved_ops :
    decode (.request ⟨0x0F#8, 0#32, 0#2, 0#32, []⟩) = .reservedOp0F ∧
    decode (.request ⟨0x10#8, 0#32, 0#2, 0#32, []⟩) = .reservedOp10To1F 0x10#8 ∧
    decode (.request ⟨0x1F#8, 0#32, 0#2, 0#32, []⟩) = .reservedOp10To1F 0x1F#8 ∧
    decode (.request ⟨0x20#8, 0#32, 0#2, 0#32, []⟩) = .reservedOp20To3F 0x20#8 ∧
    decode (.request ⟨0x3F#8, 0#32, 0#2, 0#32, []⟩) = .reservedOp20To3F 0x3F#8 ∧
    decode (.request ⟨0x40#8, 0#32, 0#2, 0#32, []⟩) = .reservedOp40To7F 0x40#8 ∧
    decode (.request ⟨0x7F#8, 0#32, 0#2, 0#32, []⟩) = .reservedOp40To7F 0x7F#8 ∧
    decode (.request ⟨0x80#8, 0#32, 0#2, 0#32, []⟩) = .reservedOp80ToFF 0x80#8 ∧
    decode (.request ⟨0xFF#8, 0#32, 0#2, 0#32, []⟩) = .reservedOp80ToFF 0xFF#8 := by decide

/-- Symbols by tag (R80 to R84). -/
theorem test_decode_symbols :
    decode (.symbol 0#2 0#32) = .symIdle ∧
    decode (.symbol 1#2 0xFF801705#32) = .symControl 0x801705#24 ∧
    decode (.symbol 2#2 0x08E60000#32) = .symData 0x08E60000#32 ∧
    decode (.symbol 3#2 0#32) = .symError := by decide

/-- Control symbols by stype0 (95_test_vectors.md section 2.2). -/
theorem test_decode_stype0 :
    decode (.controlByStype0 0x05F70F#24) = .packetAccepted 5#5 30#5 7#3 0#3 0x0F#5 ∧
    decode (.controlByStype0 0x230716#24) = .packetRetry 3#5 0#5 7#3 0#3 0x16#5 ∧
    decode (.controlByStype0 0x472707#24) = .packetNotAccepted 7#5 4#5 7#3 0#3 0x07#5 ∧
    decode (.controlByStype0 0x880F07#24) = .status 8#5 1#5 7#3 0#3 0x07#5 ∧
    decode (.controlByStype0 0xA92F17#24) = .linkResponse 9#5 5#5 7#3 0#3 0x17#5 ∧
    decode (.controlByStype0 0x60071B#24) = .stype0Reserved3 0#5 0#5 7#3 0#3 0x1B#5 ∧
    decode (.controlByStype0 0xC08713#24) = .stype0Reserved6 0#5 16#5 7#3 0#3 0x13#5 ∧
    decode (.controlByStype0 0xE0070D#24) = .stype0Reserved7 0#5 0#5 7#3 0#3 0x0D#5 := by decide

/-- Control symbols by stype1 (95_test_vectors.md sections 2.2 and 2.6; the cmds 0, 1, 2, 5, 6, 7 by R85 and R150). -/
theorem test_decode_stype1 :
    decode (.controlByStype1 0x83100B#24) = .startOfPacket 4#3 3#5 2#5 0#3 0x0B#5 ∧
    decode (.controlByStype1 0x80111B#24) = .stomp 4#3 0#5 2#5 0#3 0x1B#5 ∧
    decode (.controlByStype1 0x811216#24) = .endOfPacket 4#3 1#5 2#5 0#3 0x16#5 ∧
    decode (.controlByStype1 0x801302#24) = .restartFromRetry 4#3 0#5 2#5 0#3 0x02#5 ∧
    decode (.controlByStype1 0x80FD04#24) = .multicastEvent 4#3 0#5 31#5 0#3 0x04#5 ∧
    decode (.controlByStype1 0x1FFF00#24) = .nop 0#3 31#5 31#5 0#3 0x00#5 ∧
    decode (.controlByStype1 0x811483#24) = .linkRequestInputStatus 4#3 1#5 2#5 0x03#5 ∧
    decode (.controlByStype1 0x80140A#24) = .linkRequestCmd0 4#3 0#5 2#5 0x0A#5 ∧
    decode (.controlByStype1 0x80143F#24) = .linkRequestCmd1 4#3 0#5 2#5 0x1F#5 ∧
    decode (.controlByStype1 0x801455#24) = .linkRequestCmd2 4#3 0#5 2#5 0x15#5 ∧
    decode (.controlByStype1 0x801460#24) = .linkRequestCmd3 4#3 0#5 2#5 0x00#5 ∧
    decode (.controlByStype1 0x8014B4#24) = .linkRequestCmd5 4#3 0#5 2#5 0x14#5 ∧
    decode (.controlByStype1 0x8014DE#24) = .linkRequestCmd6 4#3 0#5 2#5 0x1E#5 ∧
    decode (.controlByStype1 0x8014EB#24) = .linkRequestCmd7 4#3 0#5 2#5 0x0B#5 ∧
    decode (.controlByStype1 0x80FE0B#24) = .stype1Reserved6 4#3 0#5 31#5 0#3 0x0B#5 := by decide

/-- Words of the opcode table, as the host numbers them. -/
theorem test_decode_table_words :
    decodeTableWord 8 0x0E = some (.getCounter 0#32) ∧
    decodeTableWord 8 0x80 = some (.reservedOp80ToFF 0x80#8) ∧
    decodeTableWord 24 0xA00000 = some (.linkResponse 0#5 0#5 0#3 0#3 0#5) ∧
    decodeTableWord 24 0x000480 = some (.linkRequestInputStatus 0#3 0#5 0#5 0#5) ∧
    decodeTableWord 24 0x000700 = some (.nop 0#3 0#5 0#5 0#3 0#5) ∧
    decodeTableWord 32 0 = none := by decide

/-! ### CRCs and queues (95_test_vectors.md sections 2.1, 2.3, 2.4) -/

/-- V-C5-1, V-C5-2, V-C5-4. -/
theorem test_crc5 : crc5 0#19 = 0x07#5 ∧ crc5 0x407F8#19 = 0x1D#5 ∧ crcGood 0x801704#24 = false ∧
    controlSymbolOf 4#3 0#5 2#5 4#3 4#3 = 0x801481#24 := by decide +kernel

/-- V-C16-1 to V-C16-6, V-C16-8, V-C16-11. -/
theorem test_crc16 : crc16Word 0#32 0xFFFF#16 = 0x84C0#16 ∧ crc16Word 0xFFFFFFFF#32 0xFFFF#16 = 0x1D0F#16 ∧
    crc16Word 0x12345678#32 0xFFFF#16 = 0x30EC#16 ∧ crc16Word 0x08E60000#32 0#16 = 0x9752#16 ∧
    packetResidue Config.standard s2Packet = 0#16 ∧
    packetResidue Config.standard [0x00010002#32, 0xAABBCCDD#32, 0x08E70000#32] = 0x3730#16 := by decide +kernel

/-- V-C16-12: the mask of the first word. -/
theorem test_crc16_mask :
    packetResidue Config.standard [0xFC010002#32, 0xAABBCCDD#32, 0x08E60000#32] = 0x386D#16 ∧
    packetResidue { Config.standard with crc16FirstMask := 0x03FFFFFF#32 }
      [0xFC010002#32, 0xAABBCCDD#32, 0x08E60000#32] = 0#16 := by decide +kernel

/-- The table of queue sizes. -/
theorem test_queue_sizes :
    [0, 69, 70, 139, 140, 17850, 17920, 21000].map (fun n => (queueInit n 70).size) = [0, 0, 1, 1, 2, 255, 255, 255] := by
  decide

/-! ### One step of every instruction -/

/-- V-R-1, from a state with a packet in flight. -/
theorem test_open : after .openOp sent (fun t => (t.rx.state, t.tx.state, t.tx.ackidWindow, t.txq.available,
    t.port.timeout)) = some (.uninitialized, .uninitialized, 0#5, 2, 0xFFFFFFFF#32) := by decide

/-- V-T-2, first half. -/
theorem test_portSetTime : after (.portSetTime 0x55#32) sent (fun t => (t.port.time, t.port.timeout)) =
    some (0x55#32, 100#32) := by decide

theorem test_portSetTimeout : after (.portSetTimeout 7#32) sent (fun t => (t.port.time, t.port.timeout)) =
    some (0#32, 7#32) := by decide

/-- V-H-12: link drop in a packet. -/
theorem test_portSetStatus_drop : after (.portSetStatus 0#32) (emitting 2)
    (fun t => (t.rx.state, t.tx.state, t.tx.frameState, queueUsed t.txq)) =
    some (.uninitialized, .uninitialized, .start, 1) := by decide

/-- V-H-11, V-H-13: PORT_SET_STATUS(1) changes nothing in a link that is up, and initializes one that is down. -/
theorem test_portSetStatus_up :
    after (.portSetStatus 1#32) (emitting 0) id = some (emitting 0) ∧
    after (.portSetStatus 1#32) { sent with rx := { sent.rx with state := .uninitialized } }
      (fun t => (t.rx.state, t.tx.state, queueUsed t.txq, t.txq.windowSize)) =
      some (.portInitialized, .portInitialized, 1, 0) := by decide

/-- V-H-10, V-RX-25. -/
theorem test_portAddSymbol :
    after (.portAddSymbol (.control 0x801481#24)) up2 (fun t => (t.tx.mailbox, t.tx.mailboxParam, linkIsInitialized t)) =
      some (.sendLinkResponse, 16#5, false) ∧
    after (.portAddSymbol (.control 0x801481#24)) portUp (fun t => (t.rx.state, t.tx.mailbox)) =
      some (.linkInitialized, .sendLinkResponse) := by decide +kernel

/-- V-TX-3: what each call emits; V-T-1, V-T-2: the timeout. -/
theorem test_portGetSymbol_packet :
    after .portGetSymbol queued (·.response.sym) = some (.control 0x80100D#24) ∧
    after .portGetSymbol (emitting 1) (·.response.sym) = some (.data 0xAABBCCDD#32) ∧
    after .portGetSymbol (emitting 3) (fun t => (t.response.sym, t.txq.windowSize, t.tx.ackidWindow)) =
      some (.control 0x801214#24, 1, 1#5) ∧
    after .portGetSymbol { sent with port := ⟨100#32, 100#32⟩ } (·.response.sym) = some .idle ∧
    after .portGetSymbol { sent with port := ⟨101#32, 100#32⟩ }
      (fun t => (t.response.sym, t.tx.state, counterOf t .outboundErrorTimeout)) =
      some (.control 0x801481#24, .outputErrorStopped, 1#32) := by decide +kernel

/-- V-RX-18 (the RETRY before the pending ACC), V-RX-6, V-TX-4, V-TX-13, V-TX-10, V-TX-2, V-H-14. -/
theorem test_portGetSymbol_control :
    after .portGetSymbol inRetry (·.response.sym) = some (.control 0x210712#24) ∧
    after .portGetSymbol inErr (·.response.sym) = some (.control 0x401718#24) ∧
    after .portGetSymbol received (·.response.sym) = some (.control 0x000F01#24) ∧
    after .portGetSymbol (outErr true) (·.response.sym) = some (.control 0x801481#24) ∧
    after .portGetSymbol outRetry (·.response.sym) = some (.control 0x801302#24) ∧
    after .portGetSymbol portUp (·.response.sym) = some (.control 0x801705#24) ∧
    after .portGetSymbol State.reset (·.response.sym) = some .idle := by decide +kernel

/-- V-H-1, V-H-3. -/
theorem test_setOutboundPacket_refuses :
    after (.setOutboundPacket []) up2 (fun t => (t.response.result, t.txq.available)) = some (0#32, 2) ∧
    after (.setOutboundPacket (List.replicate 70 0#32)) up2 (fun t => (t.response.result, t.txq.available)) =
      some (0#32, 2) := by decide +kernel

/-- The S2 packet in slot 0 (R125); V-H-2: L = M. -/
theorem test_setOutboundPacket_accepts :
    after (.setOutboundPacket s2Packet) up2 (fun t => (t.response.result, t.txq, t.txbuf)) =
      some (1#32, queued.txq, s2Slot) ∧
    after (.setOutboundPacket (List.replicate 69 0#32)) up2 (fun t => (t.response.result, t.txq.available)) =
      some (1#32, 1) := by decide +kernel

/-- The last lines of P3, V-H-5. -/
theorem test_getInboundPacket :
    after .getInboundPacket received (fun t => (t.response.result, t.response.pkt, t.rxq.available, t.rxq.windowIndex)) =
      some (3#32, s2Packet, 2, 1) ∧
    after .getInboundPacket up2 (fun t => (t.response.result, t.response.pkt, t.rxq.available)) =
      some (0#32, [], 2) := by decide

/-- V-H-15, V-H-9, S2. -/
theorem test_queries :
    after .getInboundQueueLength received (·.response.result) = some 1#32 ∧
    after .getInboundQueueAvailable received (·.response.result) = some 1#32 ∧
    after .getInboundQueueAvailable up2 (·.response.result) = some 2#32 ∧
    after .getOutboundQueueLength { sent with txq := { sent.txq with available := 0 } } (·.response.result) = some 2#32 ∧
    after .getOutboundQueueAvailable { sent with txq := { sent.txq with available := 0 } } (·.response.result) =
      some 0#32 ∧
    after .getLinkIsInitialized up2 (·.response.result) = some 1#32 ∧
    after .getLinkIsInitialized inErr (·.response.result) = some 0#32 ∧
    after .getStatus up2 (·.response.result) = some 1#32 ∧
    after .getStatus portUp (·.response.result) = some 0#32 := by decide

/-- V-H-7, and a counter by its id (R44). -/
theorem test_getCounter :
    after (.getCounter 20#32) { up2 with counter := Vector.replicate 20 9#32 } (·.response.result) = some 0#32 ∧
    after (.getCounter 8#32) (inc .outboundComplete up2) (·.response.result) = some 1#32 := by decide

/-- V-H-8. -/
theorem test_reserved_ops : ∀ i ∈ [Instr.reservedOp0F, .reservedOp10To1F 0x10#8, .reservedOp20To3F 0x20#8,
    .reservedOp40To7F 0x40#8, .reservedOp80ToFF 0x80#8], after i sent id = some sent := by decide

/-- V-RX-1. -/
theorem test_symIdle : after .symIdle receiving id = some receiving := by decide

/-- V-RX-6. -/
theorem test_symControl : after (.symControl 0x801704#24) up2
    (fun t => (t.rx.state, t.tx.mailbox, t.tx.mailboxParam, counterOf t .inboundErrorControlCrc)) =
    some (.inputErrorStopped, .sendPacketNotAccepted, 2#5, 1#32) := by decide +kernel

/-- S2 at t = 180, where the running CRC-16 becomes 0x08E6. -/
theorem test_symData_stores : after (.symData 0xAABBCCDD#32)
    { receiving with rx := { receiving.rx with counter := 1, crc := 0x93B2#16 }, rxbuf := [(1, 0x00010002#32)] }
    (fun t => (t.rx.counter, t.rx.crc, t.rxbuf)) =
    some (2, 0x08E6#16, [(1, 0x00010002#32), (2, 0xAABBCCDD#32)]) := by decide +kernel

/-- V-RX-3, V-RX-5. -/
theorem test_symData_raises :
    after (.symData 5#32) up2 (fun t => (t.rx.state, t.rx.errorCause, counterOf t .inboundErrorGeneral)) =
      some (.inputErrorStopped, 31#5, 1#32) ∧
    after (.symData 5#32) { receiving with rx := { receiving.rx with counter := 69 } }
      (fun t => (t.rx.state, t.rx.errorCause, t.rx.receiving)) = some (.inputErrorStopped, 31#5, false) := by decide

/-- V-RX-2, V-RX-19, V-RX-22. -/
theorem test_symError :
    after .symError up2 (fun t => (t.rx.state, counterOf t .inboundErrorIllegalCharacter)) =
      some (.inputErrorStopped, 1#32) ∧
    after .symError inRetry (fun t => (t.rx.state, t.tx.mailbox, t.tx.mailboxParam)) =
      some (.inputErrorStopped, .sendPacketNotAccepted, 5#5) ∧
    after .symError portUp (fun t => (t.rx.state, counterOf t .inboundErrorIllegalCharacter)) =
      some (.portInitialized, 1#32) := by decide

/-- V-TX-6. -/
theorem test_packetAccepted : after (.packetAccepted 0#5 2#5 7#3 0#3 0x13#5) { sent with port := ⟨7#32, 100#32⟩ }
    (fun t => (t.tx.ackid, queueUsed t.txq, counterOf t .outboundComplete, counterOf t .outboundLinkLatencyMax)) =
    some (1#5, 0, 1#32, 7#32) := by decide +kernel

/-- V-TX-7, V-TX-8. -/
theorem test_packetAccepted_unexpected :
    after (.packetAccepted 0#5 2#5 7#3 0#3 0x13#5) up2
      (fun t => (t.tx.state, t.tx.lrPending, counterOf t .outboundErrorPacketAccepted)) =
      some (.outputErrorStopped, true, 1#32) ∧
    after (.packetAccepted 1#5 2#5 7#3 0#3 0x11#5) sent (fun t => (t.tx.state, t.tx.ackid, queueUsed t.txq)) =
      some (.outputErrorStopped, 0#5, 1) := by decide +kernel

/-- V-TX-10, V-TX-9. -/
theorem test_packetRetry :
    after (.packetRetry 0#5 0#5 7#3 0#3 0x10#5) (emitting 1)
      (fun t => (t.tx.state, t.tx.frameState, t.tx.bufferStatus, counterOf t .outboundRetry)) =
      some (.outputRetryStopped, .start, 0#5, 1#32) ∧
    after (.packetRetry 3#5 0#5 7#3 0#3 0x16#5) sent
      (fun t => (t.tx.state, t.tx.lrPending, counterOf t .outboundErrorPacketRetry)) =
      some (.outputErrorStopped, true, 1#32) := by decide +kernel

/-- V-TX-11, V-TX-18. -/
theorem test_packetNotAccepted :
    after (.packetNotAccepted 0#5 4#5 7#3 0#3 0x09#5) sent
      (fun t => (t.tx.state, t.tx.lrPending, t.tx.bufferStatus, counterOf t .partnerErrorPacketCrc)) =
      some (.outputErrorStopped, true, 2#5, 1#32) ∧
    after (.packetNotAccepted 0#5 2#5 7#3 0#3 0x18#5) (outErr false)
      (fun t => (t.tx.state, t.tx.lrPending, counterOf t .partnerErrorControlCrc)) =
      some (.outputErrorStopped, false, 1#32) := by decide +kernel

/-- P1's STATUS, V-RX-23. -/
theorem test_status :
    after (.status 0#5 2#5 7#3 0#3 0x05#5) portUp (fun t => (t.rx.state, t.rx.statusReceived, t.tx.bufferStatus)) =
      some (.linkInitialized, true, 2#5) ∧
    after (.status 1#5 0#5 7#3 0#3 0x1B#5) portUp (fun t => (t.rx.state, t.rx.statusReceived)) =
      some (.portInitialized, false) := by decide +kernel

/-- V-TX-12, V-TX-14. -/
theorem test_linkResponse_ignored :
    after (.linkResponse 1#5 16#5 7#3 0#3 0x05#5) (outErr true) id = some (outErr true) ∧
    after (.linkResponse 2#5 16#5 7#3 0#3 0x03#5) (outErr false) id = some (outErr false) := by decide +kernel

/-- V-TX-15. -/
theorem test_linkResponse : after (.linkResponse 1#5 16#5 7#3 0#3 0x05#5) (outErr false)
    (fun t => (t.tx.state, t.tx.ackid, queueUsed t.txq, counterOf t .outboundComplete, counterOf t .outboundRetry)) =
    some (.linkInitialized, 1#5, 0, 1#32, 1#32) := by decide +kernel

/-- The reserved codes of 95_test_vectors.md section 2.2. -/
theorem test_stype0_reserved : ∀ i ∈ [Instr.stype0Reserved3 0#5 0#5 7#3 0#3 0x1B#5,
    .stype0Reserved6 0#5 16#5 7#3 0#3 0x13#5, .stype0Reserved7 0#5 0#5 7#3 0#3 0x0D#5],
    after i up2 id = some (inc .inboundErrorPacketUnsupported up2) := by decide +kernel

/-- V-RX-10, V-RX-18, V-RX-17. -/
theorem test_startOfPacket :
    after (.startOfPacket 4#3 3#5 2#5 0#3 0x0B#5) up2 (fun t => (t.rx.state, t.tx.mailboxParam)) =
      some (.inputErrorStopped, 1#5) ∧
    after (.startOfPacket 4#3 1#5 2#5 0#3 0x0F#5) full
      (fun t => (t.rx.state, t.tx.mailbox, counterOf t .inboundRetry)) =
      some (.inputRetryStopped, .sendPacketRetry, 1#32) ∧
    after (.startOfPacket 4#3 5#5 2#5 0#3 0x07#5) full
      (fun t => (t.rx.state, counterOf t .inboundErrorPacketAckid, counterOf t .inboundRetry)) =
      some (.inputErrorStopped, 1#32, 0#32) := by decide +kernel

/-- V-RX-15. -/
theorem test_startOfPacket_ends_the_packet_before : after (.startOfPacket 4#3 1#5 2#5 0#3 0x0F#5) receiving
    (fun t => (t.rx.ackid, t.rx.receiving, t.rx.counter, t.rx.crc, queueUsed t.rxq)) =
    some (1#5, true, 0, 0xFFFF#16, 1) := by decide +kernel

/-- V-RX-16. -/
theorem test_stomp : after (.stomp 4#3 0#5 2#5 0#3 0x1B#5) receiving
    (fun t => (t.rx.receiving, t.rx.counter, t.rx.ackid, queueUsed t.rxq)) = some (false, 0, 0#5, 0) := by decide +kernel

/-- V-RX-11. -/
theorem test_endOfPacket_commits : after (.endOfPacket 4#3 0#5 2#5 0#3 0x14#5) receiving
    (fun t => (t.rx.ackid, t.rx.receiving, t.rxq, t.rxbuf)) = some (1#5, false, received.rxq, s2Slot) := by
  decide +kernel

/-- V-RX-12, V-RX-14. -/
theorem test_endOfPacket_raises :
    after (.endOfPacket 4#3 0#5 2#5 0#3 0x14#5) { receiving with rx := { receiving.rx with crc := 0x3730#16 } }
      (fun t => (t.rx.state, t.rx.errorCause, counterOf t .inboundErrorPacketCrc)) =
      some (.inputErrorStopped, 4#5, 1#32) ∧
    after (.endOfPacket 4#3 0#5 2#5 0#3 0x14#5) up2 (fun t => (t.rx.errorCause, counterOf t .inboundErrorGeneral)) =
      some (31#5, 1#32) := by decide +kernel

/-- V-RX-21. -/
theorem test_restartFromRetry : after (.restartFromRetry 4#3 0#5 2#5 0#3 0x02#5) inRetry
    (fun t => (t.rx.state, t.tx.mailbox)) = some (.linkInitialized, .sendPacketRetry) := by decide +kernel

/-- V-RX-26. -/
theorem test_multicastEvent : after (.multicastEvent 4#3 0#5 31#5 0#3 0x04#5) up2 id =
    some { up2 with tx := { up2.tx with bufferStatus := 31#5 } } := by decide +kernel

/-- V-INV-3, step 5: an ACC whose stype1 is NOP. -/
theorem test_nop : after (.nop 0#3 0#5 1#5 0#3 0x01#5) sent (fun t => (t.tx.ackid, t.tx.bufferStatus)) =
    some (1#5, 1#5) := by decide +kernel

/-- V-RX-8, V-RX-20, V-RX-24. -/
theorem test_linkRequestInputStatus :
    after (.linkRequestInputStatus 4#3 0#5 2#5 0x01#5) inRetry
      (fun t => (t.rx.state, t.rx.ackidAcked, t.tx.mailbox, t.tx.mailboxParam)) =
      some (.linkInitialized, 1#5, .sendLinkResponse, 4#5) ∧
    after (.linkRequestInputStatus 4#3 0#5 2#5 0x01#5) inErr (·.tx.mailboxParam) = some 5#5 ∧
    after (.linkRequestInputStatus 4#3 1#5 2#5 0x03#5) portUp
      (fun t => (t.rx.state, t.tx.mailbox, counterOf t .partnerLinkRequest)) =
      some (.portInitialized, .noRequest, 1#32) := by decide +kernel

/-- V-RX-9, and the other cmds that are not input-status (R93). -/
theorem test_linkRequest_unsupported : ∀ i ∈ [Instr.linkRequestCmd0 4#3 0#5 2#5 0x0A#5,
    .linkRequestCmd1 4#3 0#5 2#5 0x1F#5, .linkRequestCmd2 4#3 0#5 2#5 0x15#5, .linkRequestCmd3 4#3 0#5 2#5 0x00#5,
    .linkRequestCmd5 4#3 0#5 2#5 0x14#5, .linkRequestCmd6 4#3 0#5 2#5 0x1E#5, .linkRequestCmd7 4#3 0#5 2#5 0x0B#5],
    after i up2 id = some (inc .inboundErrorPacketUnsupported up2) := by decide +kernel

/-- The code 6 of stype1 with STATUS (R191), and with the reserved stype0 3: counted once (V-RX-7). -/
theorem test_stype1Reserved6 :
    after (.stype1Reserved6 4#3 0#5 31#5 0#3 0x0B#5) up2
      (fun t => (t.tx.bufferStatus, counterOf t .inboundErrorPacketUnsupported)) = some (31#5, 1#32) ∧
    after (.stype1Reserved6 3#3 0#5 0#5 0#3 0x0D#5) up2 id = some (inc .inboundErrorPacketUnsupported up2) := by
  decide +kernel

/-- V-T-7: a counter at its largest value stays. -/
theorem test_counter_saturates :
    after (.symData 1#32) { up2 with counter := Vector.replicate 20 0xFFFFFFFF#32 }
      (counterOf · .inboundErrorGeneral) = some 0xFFFFFFFF#32 := by decide

/-- A step runs what the host issued, and nothing when it issued nothing. -/
theorem test_step : step { queued with pending := [.request ⟨0x0A#8, 0#32, 0#2, 0#32, []⟩] } =
      .next { queued with response := ⟨1#32, .idle, []⟩ } ∧
    step queued = .next queued ∧ step (State.reset.withFetchWord 8 0x0D) = .next State.reset := ⟨rfl, rfl, rfl⟩

/-- R71: of two operations issued one after the other, PORT_SET_TIME 1 and PORT_SET_TIME 2, the first runs first and the
second leaves its time. -/
theorem test_issue_order :
    (match step (issueInput (.request ⟨0x01#8, 2#32, 0#2, 0#32, []⟩)
        (issueInput (.request ⟨0x01#8, 1#32, 0#2, 0#32, []⟩) up2)) with
      | .next t => some (t.port.time, t.pending)
      | .fault _ => none
      | .refused _ => none) = some (1#32, [.request ⟨0x01#8, 2#32, 0#2, 0#32, []⟩]) ∧
    (match steps 2 (issueAll [.request ⟨0x01#8, 1#32, 0#2, 0#32, []⟩, .request ⟨0x01#8, 2#32, 0#2, 0#32, []⟩] up2) with
      | .next t => some (t.port.time, t.pending)
      | .fault _ => none
      | .refused _ => none) = some (2#32, []) := by decide

/-! ### Witnesses: the hypotheses of each statement hold together -/

theorem witness_EncodedInstructionDecodesBack : ∀ i ∈ [Instr.reservedOp10To1F 0x10#8, .reservedOp10To1F 0x1F#8,
    .reservedOp20To3F 0x20#8, .reservedOp20To3F 0x3F#8, .reservedOp40To7F 0x40#8, .reservedOp40To7F 0x7F#8,
    .reservedOp80ToFF 0x80#8, .reservedOp80ToFF 0xFF#8, .nop 7#3 31#5 31#5 7#3 31#5], WellFormed i = true := by decide

theorem witness_ControlSymbolFieldsRoundTrip : crcGood 0x801705#24 = true := by decide +kernel

/-- The lowest and the highest bit of each clause. -/
theorem witness_SingleBitErrorsAreDetected :
    crcGood 0x801705#24 = true ∧ (0 < 24 ∧ 23 < 24) ∧ (0 < 19 ∧ 18 < 19) := by decide +kernel

/-- The premises of `UnusedRequestFieldsIgnored` on two requests. -/
abbrev AgreeWhereUsed (r r' : Request) : Prop :=
  r'.op = r.op ∧ (r.op ∈ [0x01#8, 0x02#8, 0x03#8, 0x0E#8] → r'.arg = r.arg) ∧
    (r.op = 0x04#8 → r'.tag = r.tag ∧
      (r.tag = 1#2 → r'.payload.extractLsb' 0 24 = r.payload.extractLsb' 0 24) ∧
      (r.tag = 2#2 → r'.payload = r.payload)) ∧
    (r.op = 0x06#8 → r'.pkt = r.pkt)

/-- Two requests that differ in every field their operation does not use: no operand, an `arg`, a symbol of tag 0, 1 and
2, a packet. -/
theorem witness_UnusedRequestFieldsIgnored :
    AgreeWhereUsed ⟨0x05#8, 0#32, 0#2, 0#32, []⟩ ⟨0x05#8, 1#32, 1#2, 1#32, [1#32]⟩ ∧
    AgreeWhereUsed ⟨0x0E#8, 8#32, 0#2, 0#32, []⟩ ⟨0x0E#8, 8#32, 1#2, 1#32, [1#32]⟩ ∧
    AgreeWhereUsed ⟨0x04#8, 0#32, 0#2, 0#32, []⟩ ⟨0x04#8, 1#32, 0#2, 1#32, [1#32]⟩ ∧
    AgreeWhereUsed ⟨0x04#8, 0#32, 1#2, 0x00801705#32, []⟩ ⟨0x04#8, 1#32, 1#2, 0xFF801705#32, [1#32]⟩ ∧
    AgreeWhereUsed ⟨0x04#8, 0#32, 2#2, 5#32, []⟩ ⟨0x04#8, 1#32, 2#2, 5#32, [1#32]⟩ ∧
    AgreeWhereUsed ⟨0x06#8, 0#32, 0#2, 0#32, s2Packet⟩ ⟨0x06#8, 1#32, 1#2, 1#32, s2Packet⟩ := by
  refine ⟨?_, ?_, ?_, ?_, ?_, ?_⟩ <;> decide

theorem witness_StepRunsDecodedOperation :
    { queued with pending := [.request ⟨0x05#8, 0#32, 0#2, 0#32, []⟩] }.pending =
      [.request ⟨0x05#8, 0#32, 0#2, 0#32, []⟩] ∧
    up2.pending = [] ∧ decodeTableWord 8 0x0D = some .getStatus ∧
    decodeTableWord 24 0x800000 = some (.status 0#5 0#5 0#3 0#3 0#5) := by decide

theorem witness_PowerOnMeetsInvariant : Config.standard.m < 2 ^ 32 ∧ (2 ^ 32 - 1 < 2 ^ 32) := by decide

/-- `queued` with a PORT_GET_SYMBOL issued. -/
def issued : State := { queued with pending := [.request ⟨0x05#8, 0#32, 0#2, 0#32, []⟩] }

theorem witness_StepKeepsInvariant : Inv issued ∧ ∃ t, step issued = .next t ∧ t.tx.frameState = .body :=
  ⟨by refine ⟨?_, ?_, ?_, ?_, ?_, ?_, ?_, ?_, ?_⟩ <;> decide,
    exists_next (i := .portGetSymbol) (s := queued) (f := fun t => t.tx.frameState) (by decide +kernel)⟩

theorem witness_EveryInstructionCompletes : Inv (emitting 3) ∧ Inv received :=
  ⟨test_inv_emitting 3 (by decide), test_inv_received⟩

theorem witness_ReachableStatesMeetR51 : Config.standard.m < 2 ^ 32 ∧
    ∃ t, Reachable Config.standard t ∧ t.rx.state = .portInitialized :=
  ⟨by decide, _, .step _ _ (.issue (.request ⟨0x03#8, 1#32, 0#2, 0#32, []⟩) _ .powerOn) rfl, rfl⟩

/-- The hypothesis of the first clause; the second has `up2` with nothing pending and two operations issued. -/
theorem witness_ParametersAreNeverWritten : (∃ t, exec .openOp sent = .next t ∧ t.tx.ackidWindow = 0#5) ∧ up2.pending = [] :=
  ⟨exists_next (by decide), rfl⟩

theorem witness_SymbolRowIsPortAddSymbol :
    deliveredSymbol (.status 0#5 2#5 7#3 0#3 0x05#5) = some (.control 0x801705#24) := by decide

/-- The ways out of INPUT_ERROR_STOPPED: OPEN, PORT_SET_STATUS(0), LINK_REQUEST. -/
theorem witness_ReceiverLeavesStoppedStatesOnlyBy_error :
    inErr.rx.state = .inputErrorStopped ∧
    (∃ t, exec .openOp inErr = .next t ∧ t.rx.state = .uninitialized) ∧
    (∃ t, exec (.portSetStatus 0#32) inErr = .next t ∧ t.rx.state = .uninitialized) ∧
    ∃ t, exec (.linkRequestInputStatus 4#3 0#5 2#5 0x01#5) inErr = .next t ∧ t.rx.state = .linkInitialized :=
  ⟨rfl, exists_next (by decide), exists_next (by decide), exists_next (by decide +kernel)⟩

/-- The ways out of INPUT_RETRY_STOPPED: LINK_REQUEST, RESTART_FROM_RETRY, Error, a bad CRC-5. -/
theorem witness_ReceiverLeavesStoppedStatesOnlyBy_retry :
    inRetry.rx.state = .inputRetryStopped ∧
    (∃ t, exec (.linkRequestInputStatus 4#3 0#5 2#5 0x01#5) inRetry = .next t ∧ t.rx.state = .linkInitialized) ∧
    (∃ t, exec (.restartFromRetry 4#3 0#5 2#5 0#3 0x02#5) inRetry = .next t ∧ t.rx.state = .linkInitialized) ∧
    (∃ t, exec .symError inRetry = .next t ∧ t.rx.state = .inputErrorStopped) ∧
    ∃ t, exec (.symControl 0x801704#24) inRetry = .next t ∧ t.rx.state = .inputErrorStopped :=
  ⟨rfl, exists_next (by decide +kernel), exists_next (by decide +kernel), exists_next (by decide),
    exists_next (by decide +kernel)⟩

/-- The ways out of OUTPUT_ERROR_STOPPED: PORT_SET_STATUS(0), LINK_RESPONSE. -/
theorem witness_TransmitterLeavesStoppedStatesOnlyBy_error :
    CouplingOk (outErr false) ∧ (outErr false).tx.state = .outputErrorStopped ∧
    (∃ t, exec (.portSetStatus 0#32) (outErr false) = .next t ∧ t.tx.state = .uninitialized) ∧
    ∃ t, exec (.linkResponse 1#5 16#5 7#3 0#3 0x05#5) (outErr false) = .next t ∧ t.tx.state = .linkInitialized :=
  ⟨by decide, rfl, exists_next (by decide), exists_next (by decide +kernel)⟩

/-- The ways out of OUTPUT_RETRY_STOPPED: the RESTART_FROM_RETRY, an ACC, a RETRY of another ackID, a NACC. -/
theorem witness_TransmitterLeavesStoppedStatesOnlyBy_retry :
    CouplingOk outRetry ∧ outRetry.tx.state = .outputRetryStopped ∧
    (∃ t, exec .portGetSymbol outRetry = .next t ∧ t.tx.state = .linkInitialized) ∧
    (∃ t, exec (.packetAccepted 0#5 2#5 7#3 0#3 0x13#5) outRetry = .next t ∧ t.tx.state = .outputErrorStopped) ∧
    (∃ t, exec (.packetRetry 3#5 0#5 7#3 0#3 0x16#5) outRetry = .next t ∧ t.tx.state = .outputErrorStopped) ∧
    ∃ t, exec (.packetNotAccepted 0#5 4#5 7#3 0#3 0x09#5) outRetry = .next t ∧ t.tx.state = .outputErrorStopped :=
  ⟨by decide, rfl, exists_next (by decide +kernel), exists_next (by decide +kernel), exists_next (by decide +kernel),
    exists_next (by decide +kernel)⟩

theorem witness_CountersNeverFall :
    (∃ t, exec .symError up2 = .next t ∧ counterOf t .inboundErrorIllegalCharacter = 1#32) ∧
    ∃ t, exec .openOp { up2 with counter := Vector.replicate 20 9#32 } = .next t ∧ counterOf t .outboundComplete = 0#32 :=
  ⟨exists_next (by decide), exists_next (by decide)⟩

/-- A counter below its largest value, one at it, and another counter. -/
theorem witness_IncrementSaturates :
    counterOf up2 .inboundComplete ≠ 0xFFFFFFFF#32 ∧
    counterOf { up2 with counter := Vector.replicate 20 0xFFFFFFFF#32 } .inboundComplete = 0xFFFFFFFF#32 ∧
    CounterId.inboundRetry ≠ .inboundComplete := by decide

/-- A queue with two packets in the window, for `d` from 0 to the window size. -/
theorem witness_RetirementIsRepeatedPopFront :
    QueueOk Config.standard 140 ⟨2, 0, 2, 1, 1, 1⟩ ∧ 0 ≤ 2 ∧ 2 ≤ 2 := by decide

theorem witness_OnlyPortGetSymbolTestsTheTimeout : Instr.packetAccepted 0#5 2#5 7#3 0#3 0x13#5 ≠ .portGetSymbol ∧
    ∃ t, exec (.packetAccepted 0#5 2#5 7#3 0#3 0x13#5) sent = .next t ∧ t.tx.ackid = 1#5 :=
  ⟨by decide, exists_next (by decide +kernel)⟩

theorem witness_OnlyTheirWritersChangeTheBuffers :
    (∃ t, exec (.setOutboundPacket s2Packet) up2 = .next t ∧ t.txbuf = s2Slot) ∧
    (∃ t, exec (.symData 7#32) receiving = .next t ∧ t.rxbuf = receiving.rxbuf ++ [(4, 7#32)]) ∧
    (∃ t, exec (.endOfPacket 4#3 0#5 2#5 0#3 0x14#5) receiving = .next t ∧ t.rxbuf = s2Slot) ∧
    ∃ t, exec (.startOfPacket 4#3 1#5 2#5 0#3 0x0F#5) receiving = .next t ∧ t.rxbuf = s2Slot :=
  ⟨exists_next (by decide), exists_next (by decide +kernel), exists_next (by decide +kernel),
    exists_next (by decide +kernel)⟩

/-- An occupied slot of each queue, with a write beside it. -/
theorem witness_OccupiedSlotsKeepTheirWords :
    (Inv received ∧ 0 < queueUsed received.rxq ∧ ∃ t, exec (.symData 7#32) { received with rx :=
      { received.rx with receiving := true } } = .next t ∧ t.rxbuf = s2Slot ++ [(71, 7#32)]) ∧
    Inv queued ∧ 0 < queueUsed queued.txq ∧
      ∃ t, exec (.setOutboundPacket [7#32]) queued = .next t ∧ t.txbuf = s2Slot ++ [(70, 1#32), (71, 7#32)] :=
  ⟨⟨test_inv_received, by decide, exists_next (by decide +kernel)⟩, test_inv_queued, by decide, exists_next (by decide)⟩

/-- One packet retired by an ACC, one by a LINK_RESPONSE, one enqueued, one refused. -/
theorem witness_OutboundQueueIsFirstInFirstOut :
    (Inv sent ∧ ∃ t, exec (.packetAccepted 0#5 2#5 7#3 0#3 0x13#5) sent = .next t ∧ queueUsed t.txq = 0) ∧
    (Inv (outErr false) ∧ ∃ t, exec (.linkResponse 1#5 16#5 7#3 0#3 0x05#5) (outErr false) = .next t ∧
      queueUsed t.txq = 0) ∧
    (Inv up2 ∧ ∃ t, exec (.setOutboundPacket s2Packet) up2 = .next t ∧ t.response.result = 1#32) ∧
    Inv up2 ∧ ∃ t, exec (.setOutboundPacket []) up2 = .next t ∧ t.response.result = 0#32 :=
  ⟨⟨test_inv_sent, exists_next (by decide +kernel)⟩, ⟨test_inv_outErr false, exists_next (by decide +kernel)⟩,
    ⟨test_inv_up2, exists_next (by decide)⟩, test_inv_up2, exists_next (by decide)⟩

/-- One packet removed, one committed by an END_OF_PACKET, one by an SOP. -/
theorem witness_InboundQueueIsFirstInFirstOut :
    (Inv received ∧ ∃ t, exec .getInboundPacket received = .next t ∧ t.response.pkt = s2Packet) ∧
    (Inv receiving ∧ ∃ t, exec (.endOfPacket 4#3 0#5 2#5 0#3 0x14#5) receiving = .next t ∧
      queuedPackets t.cfg t.rxq t.rxbuf = [s2Packet]) ∧
    Inv receiving ∧ ∃ t, exec (.startOfPacket 4#3 1#5 2#5 0#3 0x0F#5) receiving = .next t ∧
      queuedPackets t.cfg t.rxq t.rxbuf = [s2Packet] :=
  ⟨⟨test_inv_received, exists_next (by decide)⟩, ⟨test_inv_receiving, exists_next (by decide +kernel)⟩,
    test_inv_receiving, exists_next (by decide +kernel)⟩

/-- Both halves reserved, a supported symbol, an SOP with a reserved stype0. -/
theorem witness_UnsupportedSymbolIsCountedOnce :
    up2.cfg.stype0LinkResponse = 5#3 ∧ Heard ⟨3#3, 0#5, 0#5, 6#3, 0#3, 0x0D#5⟩ up2 ∧
    Heard ⟨4#3, 0#5, 2#5, 7#3, 0#3, 0x05#5⟩ up2 ∧ Heard (fieldsOf (controlSymbolOf 3#3 0#5 2#5 0#3 0#3)) up2 ∧
    (∃ t, exec (.symControl (bodyOf ⟨3#3, 0#5, 0#5, 6#3, 0#3, 0x0D#5⟩)) up2 = .next t ∧
      counterOf t .inboundErrorPacketUnsupported = 1#32) ∧
    (∃ t, exec (.symControl (bodyOf ⟨4#3, 0#5, 2#5, 7#3, 0#3, 0x05#5⟩)) up2 = .next t ∧
      counterOf t .inboundErrorPacketUnsupported = 0#32) ∧
    ∃ t, exec (.symControl (bodyOf (fieldsOf (controlSymbolOf 3#3 0#5 2#5 0#3 0#3)))) up2 = .next t ∧
      counterOf t .inboundErrorPacketUnsupported = 0#32 :=
  ⟨rfl, by decide +kernel, by decide +kernel, by decide +kernel, exists_next (by decide +kernel),
    exists_next (by decide +kernel), exists_next (by decide +kernel)⟩

/-- A STATUS, a LINK_RESPONSE that leaves the register, an OPEN and a PORT_SET_STATUS(1) that clear it. -/
theorem witness_BufferStatusIsWrittenByFourSymbols :
    (Heard ⟨4#3, 0#5, 31#5, 5#3, 0#3, 0x04#5⟩ up2 ∧
      ∃ t, exec (.multicastEvent 4#3 0#5 31#5 0#3 0x04#5) up2 = .next t ∧ t.tx.bufferStatus = 31#5) ∧
    (Heard ⟨5#3, 1#5, 16#5, 7#3, 0#3, 0x05#5⟩ up2 ∧
      ∃ t, exec (.linkResponse 1#5 16#5 7#3 0#3 0x05#5) up2 = .next t ∧ t.tx.bufferStatus = 2#5) ∧
    (∃ t, exec .openOp up2 = .next t ∧ t.tx.bufferStatus = 0#5) ∧
    ∃ t, exec (.portSetStatus 1#32) { up2 with rx := rxCleared .uninitialized } = .next t ∧ t.tx.bufferStatus = 0#5 :=
  ⟨⟨by decide +kernel, exists_next (by decide +kernel)⟩, ⟨by decide +kernel, exists_next (by decide +kernel)⟩,
    exists_next (by decide), exists_next (by decide)⟩

theorem witness_SetStatusInitializesAndDrops : (1#32 ≠ 0#32 ∧ State.reset.rx.state = .uninitialized) ∧
    0xFFFFFFFF#32 ≠ 0#32 ∧ up2.rx.state ≠ .uninitialized := by decide

/-- The codes 0x0F and 0xFF, and a row. -/
theorem witness_ReservedOperationsChangeNothing :
    0x0F ≤ (requestOf 0x0F#8).op.toNat ∧ 0x0F ≤ (requestOf 0xFF#8).op.toNat ∧
    Instr.reservedOp80ToFF 0x80#8 ∈ [.reservedOp0F, .reservedOp10To1F 0x80#8, .reservedOp20To3F 0x80#8,
      .reservedOp40To7F 0x80#8, .reservedOp80ToFF 0x80#8] := by decide

/-- The last id with a counter is 19; the first without is 20. -/
theorem witness_QueriesReturnTheirValue :
    ((19 : Fin 20), CounterId.partnerErrorGeneral) ∈ [((0 : Fin 20), CounterId.inboundComplete),
      (19, .partnerErrorGeneral)] ∧ 19 < (20#32).toNat ∧ 19 < (0xFFFFFFFF#32).toNat := by decide

/-- A full queue, the lengths 0 and M + 1, and the lengths 1 and M. -/
theorem witness_SetOutboundPacketRefusesOrEnqueues :
    { sent with txq := { sent.txq with available := 0 } }.txq.available = 0 ∧ (([] : Packet).length < 1) ∧
    up2.cfg.m < (List.replicate 70 0#32).length ∧
    (∀ n ∈ [1, 69], up2.txq.available ≠ 0 ∧ 1 ≤ (List.replicate n 0#32).length ∧
      (List.replicate n 0#32).length ≤ up2.cfg.m) ∧
    up2.txq.backIndex < up2.txq.size ∧ Memory.wf up2.txbuf := by decide

theorem witness_GetInboundPacketReturnsTheFront :
    queueUsed up2.rxq = 0 ∧ Inv received ∧ queueUsed received.rxq ≠ 0 := ⟨by decide, test_inv_received, by decide⟩

theorem witness_IgnoredSymbolsChangeNothing : deliveredSymbol (.linkResponse 0#5 5#5 7#3 0#3 0x05#5) =
    some (.control 0xA02F05#24) ∧ State.reset.rx.state = .uninitialized := by decide

theorem witness_ErrorSymbolIsCountedAndRaised : portUp.rx.state ≠ .uninitialized ∧ inErr.rx.state ≠ .uninitialized ∧
    up2.rx.state = .linkInitialized ∧ inRetry.rx.state = .inputRetryStopped := by decide

/-- Each clause: a stopped receiver; no packet open, and M words already; an open packet with 3 words, and with none. -/
theorem witness_DataSymbolIsStoredOrRaised :
    inErr.rx.state ≠ .linkInitialized ∧ (up2.rx.state = .linkInitialized ∧ up2.rx.receiving = false) ∧
    (let s : State := { receiving with rx := { receiving.rx with counter := 69 } }
     s.rx.state = .linkInitialized ∧ s.rx.receiving = true ∧ s.rx.counter = s.cfg.m) ∧
    (receiving.rx.state = .linkInitialized ∧ receiving.rx.receiving = true ∧ receiving.rx.counter ≠ receiving.cfg.m) ∧
    Inv receiving :=
  ⟨by decide, by decide, by decide, by decide, test_inv_receiving⟩

theorem witness_BadControlCrcIsCountedAndRaised :
    deliveredSymbol (.status 0#5 2#5 7#3 0#3 0x04#5) = some (.control 0x801704#24) ∧
    crc5 (crcCovered 0x801704#24) ≠ (0x801704#24).extractLsb' 0 5 ∧
    up2.rx.state ≠ .uninitialized ∧ portUp.rx.state ≠ .uninitialized := by decide +kernel

/-- An ACC with a LINK_REQUEST, from a state with a packet in flight. -/
theorem witness_HalvesAreProcessedInOrder :
    Heard (fieldsOf (controlSymbolOf 0#3 0#5 2#5 4#3 4#3)) sent ∧
    (fieldsOf (controlSymbolOf 0#3 0#5 2#5 4#3 4#3)).stype1 = 4#3 ∧
    (fieldsOf (controlSymbolOf 0#3 0#5 2#5 4#3 4#3)).stype0 = 0#3 ∧ sent.cfg.stype0LinkResponse = 5#3 ∧
    ∃ t, exec (.symControl (controlSymbolOf 0#3 0#5 2#5 7#3 0#3)) sent = .next t ∧
      (t.rx.state, t.tx.ackid) = (.linkInitialized, 1#5) :=
  ⟨by decide +kernel, by decide +kernel, by decide +kernel, rfl, exists_next (by decide +kernel)⟩

/-- A LINK_REQUEST that comes with a STATUS, before the link is initialized: the STATUS of the second symbol has an ackID
other than `tx_ackid`. -/
theorem witness_HalvesAreProcessedInOrder_portInitialized :
    Heard (fieldsOf (controlSymbolOf 4#3 1#5 2#5 4#3 4#3)) portUp ∧
    (fieldsOf (controlSymbolOf 4#3 1#5 2#5 4#3 4#3)).stype1 = 4#3 ∧
    (fieldsOf (controlSymbolOf 4#3 1#5 2#5 4#3 4#3)).stype0 = 4#3 ∧ portUp.cfg.stype0LinkResponse = 5#3 ∧
    ∃ t, exec (.symControl (controlSymbolOf 4#3 1#5 2#5 7#3 0#3)) portUp = .next t ∧
      (t.rx.state, t.tx.ackid) = (.portInitialized, 0#5) ∧ 1#5 ≠ 0#5 :=
  ⟨by decide +kernel, by decide +kernel, by decide +kernel, rfl, by
    obtain ⟨t, h, e⟩ := exists_next (i := .symControl (controlSymbolOf 4#3 1#5 2#5 7#3 0#3)) (s := portUp)
      (f := fun t => (t.rx.state, t.tx.ackid)) (a := (.portInitialized, 0#5)) (by decide +kernel)
    exact ⟨t, h, e, by decide⟩⟩

theorem witness_PacketAcceptedRetiresTheHead : Heard ⟨0#3, 0#5, 2#5, 7#3, 0#3, 0x13#5⟩ sent ∧ 7#3 ≠ 0#3 ∧
    sent.txq.windowSize ≤ queueUsed sent.txq := by decide +kernel

theorem witness_PacketRetryRewindsTheWindow :
    Heard ⟨1#3, 0#5, 0#5, 7#3, 0#3, 0x10#5⟩ (emitting 1) ∧ 7#3 ≠ 0#3 := by decide +kernel

theorem witness_PacketNotAcceptedIsCountedByCause : Heard ⟨2#3, 0#5, 4#5, 7#3, 0#3, 0x09#5⟩ sent ∧ 7#3 ≠ 0#3 := by
  decide +kernel

theorem witness_StatusUpdatesAndInitializes : Heard ⟨4#3, 0#5, 2#5, 7#3, 0#3, 0x05#5⟩ portUp ∧ 7#3 ≠ 0#3 := by
  decide +kernel

/-- `outErr false` with the parameter naming the code 6 for LINK_RESPONSE. -/
def outErr6 : State := { outErr false with cfg := { Config.standard with stype0LinkResponse := 6#3 } }

/-- The default code, with `d` at the window size; and a parameter that names the code 6. -/
theorem witness_LinkResponseResynchronizes :
    (Heard ⟨5#3, 1#5, 16#5, 7#3, 0#3, 0x05#5⟩ (outErr false) ∧ 7#3 ≠ 0#3 ∧
      5#3 = (outErr false).cfg.stype0LinkResponse ∧
      QueueOk (outErr false).cfg (outErr false).cfg.txWords (outErr false).txq) ∧
    (Heard ⟨6#3, 0#5, 16#5, 7#3, 0#3, 0x13#5⟩ outErr6 ∧ 6#3 = outErr6.cfg.stype0LinkResponse ∧
      QueueOk outErr6.cfg outErr6.cfg.txWords outErr6.txq) := by
  decide +kernel

theorem witness_ReservedStype0OnlyCounts : Heard ⟨6#3, 0#5, 16#5, 7#3, 0#3, 0x13#5⟩ up2 ∧ 7#3 ≠ 0#3 ∧
    6#3 ≠ up2.cfg.stype0LinkResponse := by decide +kernel

/-- The three clauses: a stopped receiver, no packet open, a packet open. -/
theorem witness_StartOfPacketChecksAckidThenSpace :
    (Heard ⟨4#3, 1#5, 2#5, 0#3, 0#3, 0x0F#5⟩ inErr ∧ inErr.rx.state ≠ .linkInitialized) ∧
    (Heard ⟨4#3, 1#5, 2#5, 0#3, 0#3, 0x0F#5⟩ up2 ∧ up2.rx.state = .linkInitialized ∧ up2.rx.receiving = false) ∧
    Heard ⟨4#3, 1#5, 2#5, 0#3, 0#3, 0x0F#5⟩ receiving ∧ receiving.rx.state = .linkInitialized ∧
      receiving.rx.receiving = true ∧ Inv receiving :=
  ⟨by decide +kernel, by decide +kernel, by decide +kernel, rfl, rfl, test_inv_receiving⟩

theorem witness_StompDiscardsAndRestartResumes : receiving.txq.windowSize ≤ queueUsed receiving.txq ∧
    Heard ⟨4#3, 0#5, 2#5, 1#3, 0#3, 0x1B#5⟩ receiving ∧ Heard ⟨4#3, 0#5, 2#5, 3#3, 0#3, 0x02#5⟩ receiving ∧
    inRetry.txq.windowSize ≤ queueUsed inRetry.txq ∧ Heard ⟨4#3, 0#5, 2#5, 3#3, 0#3, 0x02#5⟩ inRetry := by
  decide +kernel

/-- The four outcomes: a stopped receiver, no packet open, a bad residue, a commit. -/
theorem witness_EndOfPacketCommitsOrRaises :
    (Inv inErr ∧ Heard ⟨4#3, 0#5, 2#5, 2#3, 0#3, 0x14#5⟩ inErr) ∧
    (Inv up2 ∧ Heard ⟨4#3, 0#5, 2#5, 2#3, 0#3, 0x14#5⟩ up2) ∧
    (Inv { receiving with rx := { receiving.rx with crc := 0x3730#16 } }) ∧
    Inv receiving ∧ Heard ⟨4#3, 0#5, 2#5, 2#3, 0#3, 0x14#5⟩ receiving :=
  ⟨⟨test_inv_inErr, by decide +kernel⟩, ⟨test_inv_up2, by decide +kernel⟩, test_inv_receiving, test_inv_receiving,
    by decide +kernel⟩

/-- Input-status to a receiver that answers and to one in PORT_INITIALIZED, and the cmd 3. -/
theorem witness_LinkRequestIsAnsweredOrUnsupported :
    (4#3, Instr.linkRequestInputStatus 4#3 1#5 2#5 0x03#5) ∈ linkRequestRows 4#3 1#5 2#5 0x03#5 ∧
    (inRetry.txq.windowSize ≤ queueUsed inRetry.txq ∧ Heard ⟨4#3, 1#5, 2#5, 4#3, 4#3, 0x03#5⟩ inRetry) ∧
    (portUp.txq.windowSize ≤ queueUsed portUp.txq ∧ Heard ⟨4#3, 1#5, 2#5, 4#3, 4#3, 0x03#5⟩ portUp) ∧
    (3#3, Instr.linkRequestCmd3 4#3 0#5 2#5 0x00#5) ∈ linkRequestRows 4#3 0#5 2#5 0x00#5 ∧
    up2.txq.windowSize ≤ queueUsed up2.txq ∧ Heard ⟨4#3, 0#5, 2#5, 4#3, 3#3, 0x00#5⟩ up2 := by decide +kernel

theorem witness_EventNopAndReservedStype1AddNothing : sent.txq.windowSize ≤ queueUsed sent.txq ∧
    Heard ⟨4#3, 0#5, 31#5, 5#3, 0#3, 0x04#5⟩ sent ∧ Heard ⟨0#3, 0#5, 1#5, 7#3, 0#3, 0x01#5⟩ sent ∧
    Heard ⟨4#3, 0#5, 31#5, 6#3, 0#3, 0x0B#5⟩ sent := by decide +kernel

/-- Each of the four clauses. -/
theorem witness_MailboxThenAcknowledgement :
    (inRetry.tx.state ≠ .uninitialized ∧ inRetry.tx.mailbox = .sendPacketRetry) ∧
    (inErr.tx.state ≠ .uninitialized ∧ inErr.tx.mailbox = .sendPacketNotAccepted) ∧
    { inErr with tx := { inErr.tx with mailbox := .sendLinkResponse } }.tx.mailbox = .sendLinkResponse ∧
    (received.tx.state ≠ .uninitialized ∧ received.tx.mailbox = .noRequest ∧
      received.rx.ackidAcked ≠ received.rx.ackid) := by decide

/-- A time at which 101 has passed since the stamp of `sent`, with a timeout of 100. -/
def late : PortRegs := ⟨101#32, 100#32⟩

/-- Each of the three clauses; one time unit earlier the timeout does not fire. -/
theorem witness_LinkRequestOnTimeoutRepeatAndError :
    (let s : State := { sent with port := late }
     s.tx.mailbox = .noRequest ∧ s.rx.ackidAcked = s.rx.ackid ∧ s.tx.state = .linkInitialized ∧ 0 < s.txq.windowSize ∧
      s.port.timeout.toNat < (s.port.time - s.tx.frameTimeout.get s.tx.ackid.toFin).toNat) ∧
    (let s : State := { outErr false with port := late }
     s.tx.mailbox = .noRequest ∧ s.rx.ackidAcked = s.rx.ackid ∧ s.tx.state = .outputErrorStopped ∧
      s.tx.lrPending = false ∧
      s.port.timeout.toNat < (s.port.time - s.tx.frameTimeout.get s.tx.ackid.toFin).toNat) ∧
    (let s : State := outErr true
     s.tx.mailbox = .noRequest ∧ s.rx.ackidAcked = s.rx.ackid ∧ s.tx.state = .outputErrorStopped ∧
      s.tx.lrPending = true) ∧
    ¬ (100#32).toNat < (100#32 - sent.tx.frameTimeout.get sent.tx.ackid.toFin).toNat := by decide

theorem witness_RestartAndInitialStatus :
    (outRetry.tx.mailbox = .noRequest ∧ outRetry.rx.ackidAcked = outRetry.rx.ackid ∧
      outRetry.tx.state = .outputRetryStopped) ∧
    portUp.tx.mailbox = .noRequest ∧ portUp.rx.ackidAcked = portUp.rx.ackid ∧ portUp.tx.state = .portInitialized := by
  decide

theorem witness_StartOfPacketIsEmittedInTheWindow : queued.tx.mailbox = .noRequest ∧
    queued.rx.ackidAcked = queued.rx.ackid ∧ queued.tx.state = .linkInitialized ∧ queued.tx.frameState = .start ∧
    queued.txq.windowSize = 0 ∧ 0 < queueUsed queued.txq - queued.txq.windowSize ∧
    queued.txq.windowSize < min queued.tx.bufferStatus.toNat 31 := by decide

/-- A word still to be emitted, and none. -/
theorem witness_FrameBodyEmitsWordsThenEnd : ∀ k ∈ [0, 3], Inv (emitting k) ∧ (emitting k).tx.mailbox = .noRequest ∧
    (emitting k).rx.ackidAcked = (emitting k).rx.ackid ∧ (emitting k).tx.frameState = .body ∧
    (emitting k).txq.windowSize = 0 :=
  fun k hk => ⟨test_inv_emitting k hk, rfl, rfl, rfl, rfl⟩

/-- UNINITIALIZED; a link with nothing to send, with and without a change of the free-slot count; OUTPUT_ERROR_STOPPED
with its LINK_REQUEST sent. -/
theorem witness_BufferStatusUpdateOrIdle :
    State.reset.tx.state = .uninitialized ∧
    (up2.tx.mailbox = .noRequest ∧ up2.rx.ackidAcked = up2.rx.ackid ∧ up2.tx.state = .linkInitialized ∧
      up2.txq.windowSize = 0 ∧ up2.tx.frameState = .start ∧
      ¬ (0 < queueUsed up2.txq - up2.txq.windowSize ∧ up2.txq.windowSize < min up2.tx.bufferStatus.toNat 31)) ∧
    BitVec.ofNat 5 (min up2.rxq.available 31) = up2.tx.bufstatSent ∧
    BitVec.ofNat 5 (min received.rxq.available 31) ≠ received.tx.bufstatSent ∧
    ((outErr false).tx.state = .outputErrorStopped ∧ (outErr false).tx.lrPending = false ∧
      ¬ (outErr false).port.timeout.toNat <
        ((outErr false).port.time - (outErr false).tx.frameTimeout.get (outErr false).tx.ackid.toFin).toNat) := by decide

theorem witness_EmittedSymbolsHaveTheirForms :
    (∃ t, exec .portGetSymbol queued = .next t ∧ t.response.sym = .control 0x80100D#24) ∧
    Instr.getInboundPacket ≠ .portGetSymbol ∧
    ∃ t, exec .getInboundPacket received = .next t ∧ t.response.pkt = s2Packet :=
  ⟨exists_next (by decide +kernel), by decide, exists_next (by decide)⟩

theorem witness_BringUpTakesNStatusSymbols : 0 < Config.standard.nStatus ∧ 0 ≤ Config.standard.nStatus ∧
    15 ≤ Config.standard.nStatus := by decide

theorem witness_PacketCrossesTheLink : Inv queued ∧ Inv up2 ∧ queued.tx.state = .linkInitialized ∧
    queued.tx.frameState = .start ∧ queued.tx.mailbox = .noRequest ∧ queued.rx.ackidAcked = queued.rx.ackid ∧
    canStart queued = true ∧ queued.txq.windowSize = 0 ∧
    s2Packet = storedPacket queued.cfg queued.txbuf queued.txq.windowIndex ∧ up2.rx.state = .linkInitialized ∧
    up2.rx.receiving = false ∧ up2.rx.ackid = queued.tx.ackidWindow ∧ 0 < up2.rxq.available ∧
    s2Packet.length ≤ up2.cfg.m ∧ packetResidue up2.cfg s2Packet = 0#16 :=
  ⟨test_inv_queued, test_inv_up2, rfl, rfl, rfl, rfl, by decide, rfl, by decide, rfl, rfl, rfl, by decide, by decide,
    by decide +kernel⟩

/-- `b` has nothing received, and everything that `a` has in flight. -/
theorem witness_RecoveryHandshakeResynchronizes : Inv sent ∧ Config.ok sent.cfg ∧
    (Inv up2 ∧ up2.rx.state = .linkInitialized ∧ (up2.rx.ackid - sent.tx.ackid).toNat ≤ sent.txq.windowSize) ∧
    (Inv received ∧ (received.rx.ackid - sent.tx.ackid).toNat = sent.txq.windowSize) ∧
    up2.cfg.stype0LinkResponse = sent.cfg.stype0LinkResponse ∧ up2.cfg.lreqInputStatus = sent.cfg.lreqInputStatus ∧
    crcGood 0x801704#24 = false ∧ sent.tx.state = .linkInitialized ∧ sent.tx.mailbox = .noRequest ∧
    sent.rx.ackidAcked = sent.rx.ackid :=
  ⟨test_inv_sent, by decide, ⟨test_inv_up2, rfl, by decide⟩, ⟨test_inv_received, by decide⟩, rfl, rfl, by decide +kernel,
    rfl, rfl, rfl⟩

end Sys2Proof.Tests
end

section
/-!
The invariant of the block along a run (R51): every instruction keeps `Inv`, so every reachable state has it.

`Inv` is read as three parts that share no register but the two machine states: what the receiver keeps of `rxq` and
`RXBUF`, what the transmitter keeps of `txq` and `TXBUF`, and what couples the two machines. Each operation is then
settled by one rule per part it writes.
-/

namespace Sys2Proof.Machine

/-! ### The three parts of the invariant -/

/-- A cause that the receiver writes to `rx_error_cause` (R28, R91), or its value after OPEN. -/
abbrev ReceiverCause (cause : Field5) : Prop := cause ∈ [0#5, 1#5, 2#5, 4#5, 5#5, 31#5]

/-- The receiver's part of `Inv`: its queue and buffer, and `ReceiverOk`. -/
structure RxSide (cfg : Config) (rx : RxRegs) (q : Queue) (mem : Memory) : Prop where
  queue : QueueOk cfg cfg.rxWords q
  noWindow : q.windowSize = 0
  buffer : BufferOk cfg q mem
  receiving : rx.receiving = true → rx.state = .linkInitialized ∧ 0 < q.available
  idle : rx.receiving = false → rx.counter = 0
  counter_le : rx.counter ≤ cfg.m
  staged : ∀ k < rx.counter, (bufRead mem (stageAddress cfg q k)).isSome = true
  cause : ReceiverCause rx.errorCause

/-- The transmitter's part of `Inv`: its queue and buffer, and `TransmitterOk`. -/
structure TxSide (cfg : Config) (tx : TxRegs) (q : Queue) (mem : Memory) : Prop where
  queue : QueueOk cfg cfg.txWords q
  buffer : BufferOk cfg q mem
  ackids : tx.ackidWindow = tx.ackid + BitVec.ofNat 5 q.windowSize
  window_le : q.windowSize ≤ 31
  body : tx.frameState = .body → tx.state = .linkInitialized ∧ q.windowSize < queueUsed q ∧ q.windowSize < 31
  start : tx.frameState = .start → tx.counter = 0
  counter_le : tx.counter ≤ cfg.m
  status_le : tx.statusCounter ≤ cfg.nStatus
  retry : tx.state = .outputRetryStopped → q.windowSize = 0

/-- The part of `Inv` that couples the two machines, `CouplingOk`. -/
structure Coupled (rxState : RxState) (tx : TxRegs) : Prop where
  mailbox : tx.mailbox ≠ .noRequest → rxState ≠ .uninitialized ∧ rxState ≠ .portInitialized
  param : tx.mailbox = .noRequest ∨ tx.mailbox = .sendPacketRetry → tx.mailboxParam = 0#5
  pending : tx.lrPending = true → tx.state = .outputErrorStopped
  down : rxState = .uninitialized ↔ tx.state = .uninitialized

/-- The invariant is its three parts, for a packet length that fits the length word (log entry 3). -/
theorem inv_iff {s : State} : Inv s ↔ s.cfg.m < 2 ^ 32 ∧ RxSide s.cfg s.rx s.rxq s.rxbuf ∧
    TxSide s.cfg s.tx s.txq s.txbuf ∧ Coupled s.rx.state s.tx := by
  constructor
  · rintro ⟨hm, hrq, hrw, htq, hrb, htb, ⟨r1, r2, r3, r4, r5⟩, ⟨t1, t2, t3, t4, t5, t6, t7⟩, ⟨c1, c2, c3, c4⟩⟩
    exact ⟨hm, ⟨hrq, hrw, hrb, r1, r2, r3, r4, r5⟩, ⟨htq, htb, t1, t2, t3, t4, t5, t6, t7⟩, ⟨c1, c2, c3, c4⟩⟩
  · rintro ⟨hm, hr, ht, hc⟩
    exact ⟨hm, hr.queue, hr.noWindow, ht.queue, hr.buffer, ht.buffer,
      ⟨hr.receiving, hr.idle, hr.counter_le, hr.staged, hr.cause⟩,
      ⟨ht.ackids, ht.window_le, ht.body, ht.start, ht.counter_le, ht.status_le, ht.retry⟩,
      ⟨hc.mailbox, hc.param, hc.pending, hc.down⟩⟩

/-- A slot whose length word is `n`, with `n` written words after it, holds a packet. -/
theorem slotHolds_of_words {cfg : Config} {mem : Memory} {i n : Nat} (hm : cfg.m < 2 ^ 32)
    (hlen : bufRead mem (slotBase cfg i) = some (BitVec.ofNat 32 n)) (h1 : 1 ≤ n) (hn : n ≤ cfg.m)
    (hwords : ∀ k < n, (bufRead mem (slotBase cfg i + 1 + k)).isSome = true) : SlotHolds cfg mem i := by
  have hpl : packetLength cfg mem i = n := by
    simp only [packetLength, hlen, BitVec.toNat_ofNat]
    exact Nat.mod_eq_of_lt (by omega)
  exact ⟨by omega, by omega, by rwa [hpl]⟩

/-! ### The receiver's part -/

section receiverPart

variable {cfg : Config} {rx rx' : RxRegs} {q q' : Queue} {mem mem' : Memory}

/-- Outside LINK_INITIALIZED no packet is being received (R51.7). -/
theorem RxSide.not_receiving (h : RxSide cfg rx q mem) (hs : rx.state ≠ .linkInitialized) :
    rx.receiving = false ∧ rx.counter = 0 := by
  have hr : rx.receiving = false := Bool.eq_false_iff.mpr fun hr => hs (h.receiving hr).1
  exact ⟨hr, h.idle hr⟩

/-- Registers without a packet in progress suit every queue in order. -/
theorem RxSide.of_idle (h : RxSide cfg rx q mem) (hr : rx'.receiving = false) (hc : rx'.counter = 0)
    (he : ReceiverCause rx'.errorCause) : RxSide cfg rx' q mem where
  queue := h.queue
  noWindow := h.noWindow
  buffer := h.buffer
  receiving := by simp [hr]
  idle _ := hc
  counter_le := by omega
  staged := by simp [hc]
  cause := he

/-- A packet starts on an initialized link with a free slot (R184). -/
theorem RxSide.startPacket (h : RxSide cfg rx q mem) (hs : rx.state = .linkInitialized) (ha : q.available ≠ 0) :
    RxSide cfg { rx with receiving := true, counter := 0, crc := 0xFFFF#16 } q mem where
  queue := h.queue
  noWindow := h.noWindow
  buffer := h.buffer
  receiving _ := ⟨hs, Nat.pos_of_ne_zero ha⟩
  idle h := by simp at h
  counter_le := Nat.zero_le _
  staged k hk := absurd hk (Nat.not_lt_zero k)
  cause := h.cause

/-- A staged word (R135, R174) stands in the back slot, behind the words staged before it. -/
theorem RxSide.stageWord (h : RxSide cfg rx q mem) (hr : rx.receiving = true) (hc : rx.counter ≠ cfg.m)
    {w : Word} {crc : BitVec 16} (hst : stageWord cfg q mem rx.counter w = .ok mem') :
    RxSide cfg { rx with crc := crc, counter := rx.counter + 1 } q mem' := by
  obtain ⟨ha, -, rfl⟩ := (stageWord_eq_ok ..).mp hst
  have hwf : Memory.wf mem := h.buffer.1
  have hlt : rx.counter < cfg.m := lt_of_le_of_ne h.counter_le hc
  refine ⟨h.queue, h.noWindow, ?_, h.receiving, fun hf => ?_, hlt, fun k hk => ?_, h.cause⟩
  · refine bufferOk_writeBack h.queue h.buffer ha (wf_bufWrite mem hwf _ _) fun b hb => ?_
    have hne : b ≠ stageAddress cfg q rx.counter := by
      have := hb (1 + rx.counter) (by simp only [Config.slotWords]; omega)
      simpa [stageAddress, Nat.add_assoc] using this
    rw [bufRead_bufWrite mem hwf, if_neg hne]
  · rw [hr] at hf; cases hf
  · rw [bufRead_bufWrite mem hwf]
    split
    · rfl
    · have hne : k ≠ rx.counter := fun e => by subst e; contradiction
      exact h.staged k (by simp only at hk; omega)

/-- The commit of a staged packet (R134, R194) fills the back slot with it. -/
theorem RxSide.commitBack (hm : cfg.m < 2 ^ 32) (h : RxSide cfg rx q mem) (hc : rx.counter ≠ 0)
    (hq : commitBack cfg q mem rx.counter = .ok (q', mem')) :
    RxSide cfg { rx with ackid := rx.ackid + 1#5, receiving := false, counter := 0 } q' mem' := by
  obtain ⟨ha, -, rfl, hq'⟩ := (commitBack_eq_ok ..).mp hq
  have hwf : Memory.wf mem := h.buffer.1
  have hread := bufRead_bufWrite mem hwf (slotBase cfg q.backIndex)
  have hback : SlotHolds cfg (bufWrite mem (slotBase cfg q.backIndex) (BitVec.ofNat 32 rx.counter)) q.backIndex := by
    refine slotHolds_of_words hm (by simp [hread]) (Nat.pos_of_ne_zero hc) h.counter_le fun k hk => ?_
    rw [hread, if_neg (by omega)]
    exact h.staged k hk
  have hbuf := bufferOk_fillBack h.queue h.buffer ha hq' (wf_bufWrite mem hwf _ _)
    (fun b hb => by
      rw [hread, if_neg]
      simpa using hb 0 (by simp [Config.slotWords])) hback
  exact ⟨queueOk_fillBack h.queue ha hq', by rw [hq']; exact h.noWindow, hbuf, fun hr => (by cases hr),
    fun _ => rfl, Nat.zero_le _, fun k hk => absurd hk (Nat.not_lt_zero k), h.cause⟩

/-- Taking the front packet (R130) leaves the back slot, and so the words staged in it. -/
theorem RxSide.popFront (h : RxSide cfg rx q mem) (hq : popFront q = .ok q') : RxSide cfg rx q' mem := by
  have hqueue := queueOk_popFront h.queue hq
  have hbuf := bufferOk_popFront h.buffer hq
  have hw : q'.windowSize = 0 := by rw [windowSize_popFront hq, h.noWindow]
  obtain ⟨-, rfl⟩ := (popFront_eq_ok ..).mp hq
  exact ⟨hqueue, hw, hbuf, fun hr => ⟨(h.receiving hr).1, Nat.succ_pos _⟩, h.idle, h.counter_le, h.staged, h.cause⟩

end receiverPart

/-! ### The transmitter's part -/

section transmitterPart

variable {cfg : Config} {tx tx' : TxRegs} {q q' : Queue} {mem mem' : Memory}

/-- Outside LINK_INITIALIZED no frame is being sent (R51.8). -/
theorem TxSide.frame_start (h : TxSide cfg tx q mem) (hs : tx.state ≠ .linkInitialized) :
    tx.frameState = .start ∧ tx.counter = 0 := by
  have hf : tx.frameState = .start := by
    cases hf : tx.frameState with
    | start => rfl
    | body => exact absurd (h.body hf).1 hs
  exact ⟨hf, h.start hf⟩

/-- Registers between two frames, with the ackIDs as they were. -/
theorem TxSide.of_start (h : TxSide cfg tx q mem) (hf : tx'.frameState = .start) (hc : tx'.counter = 0)
    (ha : tx'.ackid = tx.ackid) (haw : tx'.ackidWindow = tx.ackidWindow) (hst : tx'.statusCounter ≤ cfg.nStatus)
    (hr : tx'.state = .outputRetryStopped → q.windowSize = 0) : TxSide cfg tx' q mem where
  queue := h.queue
  buffer := h.buffer
  ackids := by rw [ha, haw]; exact h.ackids
  window_le := h.window_le
  body hb := by rw [hf] at hb; cases hb
  start _ := hc
  counter_le := by omega
  status_le := hst
  retry := hr

/-- Registers between two frames, over a queue without a window. -/
theorem TxSide.of_no_window (hq : QueueOk cfg cfg.txWords q) (hb : BufferOk cfg q mem) (hw : q.windowSize = 0)
    (ha : tx.ackidWindow = tx.ackid) (hf : tx.frameState = .start) (hc : tx.counter = 0)
    (hst : tx.statusCounter ≤ cfg.nStatus) : TxSide cfg tx q mem where
  queue := hq
  buffer := hb
  ackids := by simp [ha, hw]
  window_le := by omega
  body hb := by rw [hf] at hb; cases hb
  start _ := hc
  counter_le := by omega
  status_le := hst
  retry _ := hw

/-- An acknowledged packet (R235) leaves the window and the queue together. -/
theorem TxSide.accept (h : TxSide cfg tx q mem) (hw : 0 < q.windowSize) (hq : popFront q = .ok q') :
    TxSide cfg { tx with ackid := tx.ackid + 1#5 } q' mem := by
  have hqueue := queueOk_popFront h.queue hq
  have hbuf := bufferOk_popFront h.buffer hq
  have hw' : q'.windowSize = q.windowSize - 1 := windowSize_popFront hq
  have hused : queueUsed q' = queueUsed q - 1 := by
    obtain ⟨-, rfl⟩ := (popFront_eq_ok ..).mp hq
    simp only [queueUsed]; omega
  have hack : tx.ackidWindow = tx.ackid + 1#5 + BitVec.ofNat 5 q'.windowSize := by
    obtain ⟨n, hn⟩ : ∃ n, q.windowSize = n + 1 := ⟨q.windowSize - 1, by omega⟩
    rw [h.ackids, hw', hn, Nat.add_sub_cancel, Nat.add_comm n 1, BitVec.ofNat_add, BitVec.add_assoc]
  have hle := h.window_le
  refine ⟨hqueue, hbuf, hack, by omega, fun hb => ?_, h.start, h.counter_le, h.status_le, fun hr => ?_⟩
  · obtain ⟨hs, hlt, hlt'⟩ := h.body hb
    exact ⟨hs, by omega, by omega⟩
  · have := h.retry hr
    omega

/-- A new outbound packet (R125, R276) fills the back slot. -/
theorem TxSide.pushBack (hm : cfg.m < 2 ^ 32) (h : TxSide cfg tx q mem) {pkt : Packet} (h1 : 1 ≤ pkt.length)
    (hlen : pkt.length ≤ cfg.m) (hq : pushBack cfg q mem pkt = .ok (q', mem')) : TxSide cfg tx q' mem' := by
  obtain ⟨ha, hq', hwf', hread⟩ := pushBack_ok cfg q q' mem mem' h.buffer.1 pkt hq
  have hback : SlotHolds cfg mem' q.backIndex := by
    refine slotHolds_of_words hm (n := pkt.length) ?_ h1 hlen fun k hk => ?_
    · rw [hread, if_pos (by omega), Nat.sub_self]; rfl
    · rw [hread, if_pos (by omega), show slotBase cfg q.backIndex + 1 + k - slotBase cfg q.backIndex = k + 1 by omega]
      simpa using hk
  have hother : ∀ b, (∀ k < cfg.slotWords, b ≠ slotBase cfg q.backIndex + k) → bufRead mem' b = bufRead mem b := by
    intro b hb
    rw [hread, if_neg]
    rintro ⟨hle, hlt⟩
    exact hb (b - slotBase cfg q.backIndex) (by simp only [Config.slotWords]; omega) (by omega)
  have hbuf := bufferOk_fillBack h.queue h.buffer ha hq' hwf' hother hback
  have hqueue := queueOk_fillBack h.queue ha hq'
  have hused : queueUsed q ≤ queueUsed q' := by
    subst hq'; simp only [queueUsed]; omega
  have hw : q'.windowSize = q.windowSize := by rw [hq']
  refine ⟨hqueue, hbuf, by rw [hw]; exact h.ackids, by rw [hw]; exact h.window_le, fun hb => ?_, h.start,
    h.counter_le, h.status_le, by rw [hw]; exact h.retry⟩
  obtain ⟨hs, hlt, hlt'⟩ := h.body hb
  exact ⟨hs, by omega, by omega⟩

/-- A frame starts while the window has room (R230, R240). -/
theorem TxSide.startFrame (h : TxSide cfg tx q mem) (hs : tx.state = .linkInitialized) (ha : 0 < windowAvailable q)
    (hw : q.windowSize < 31) : TxSide cfg { tx with frameState := .body, counter := 0 } q mem where
  queue := h.queue
  buffer := h.buffer
  ackids := h.ackids
  window_le := h.window_le
  body _ := ⟨hs, by unfold windowAvailable at ha; omega, hw⟩
  start hf := by cases hf
  counter_le := Nat.zero_le _
  status_le := h.status_le
  retry := h.retry

/-- The packet being sent is one of the occupied slots, so it has at most M words (R127, R61). -/
theorem TxSide.windowPacket_length (h : TxSide cfg tx q mem) {pkt : Packet}
    (hp : windowPacket cfg q mem = .ok pkt) : pkt.length ≤ cfg.m := by
  unfold windowPacket at hp
  split at hp
  · cases hp
  · rename_i hav
    obtain ⟨-, -, -, hi, -⟩ := h.queue
    have hlt : q.windowSize < queueUsed q := by unfold windowAvailable at hav; omega
    have hpos : 0 < q.size := size_pos_of_used (by omega)
    obtain ⟨-, -, hwi⟩ := hi hpos
    have hslot : SlotHolds cfg mem q.windowIndex := by rw [hwi]; exact h.buffer.2 _ hlt
    obtain ⟨pkt', hp', hlen⟩ := slotPacket_isOk (q := q) (by rw [hwi]; exact Nat.mod_lt _ hpos) hslot
    obtain rfl : pkt' = pkt := by rw [hp] at hp'; exact (Except.ok.inj hp').symm
    rw [hlen]; exact hslot.2.1

/-- A word of the frame is sent (R231). -/
theorem TxSide.sendWord (h : TxSide cfg tx q mem) (hf : tx.frameState = .body) (hc : tx.counter < cfg.m) :
    TxSide cfg { tx with counter := tx.counter + 1 } q mem :=
  { h with
    start := fun hs => by rw [hf] at hs; cases hs
    counter_le := hc }

/-- The end of a frame (R232) takes its packet into the window. -/
theorem TxSide.endFrame (h : TxSide cfg tx q mem) (hf : tx.frameState = .body) (hq : windowAdvance q = .ok q')
    {stamps : Vector Word 32} :
    TxSide cfg { tx with
      frameTimeout := stamps, ackidWindow := tx.ackidWindow + 1#5, frameState := .start, counter := 0 } q' mem := by
  obtain ⟨hs, -, hlt⟩ := h.body hf
  have hqueue := queueOk_windowAdvance h.queue hq
  obtain ⟨-, rfl⟩ := (windowAdvance_eq_ok ..).mp hq
  refine ⟨hqueue, h.buffer, ?_, hlt, fun hb => (by cases hb), fun _ => rfl, Nat.zero_le _, h.status_le,
    fun hr => ?_⟩
  · simp only [h.ackids, BitVec.ofNat_add, BitVec.add_assoc]
  · rw [hs] at hr; cases hr

end transmitterPart

/-! ### The coupling -/

section couplingPart

variable {r r' : RxState} {tx tx' : TxRegs}

/-- A receiver that is past initialization leaves a request in the mailbox (R302, R303, R188). -/
theorem Coupled.request (h : Coupled r tx) (hup : r ≠ .uninitialized)
    (hr' : r' ≠ .uninitialized ∧ r' ≠ .portInitialized) {m : Mailbox} {p : Field5}
    (hp : m = .noRequest ∨ m = .sendPacketRetry → p = 0#5) :
    Coupled r' { tx with mailbox := m, mailboxParam := p } where
  mailbox _ := hr'
  param := hp
  pending := h.pending
  down := ⟨fun hd => absurd hd hr'.1, fun hd => absurd (h.down.mpr hd) hup⟩

/-- A receiver in a port that is up becomes LINK_INITIALIZED (R181, R187). -/
theorem Coupled.resume (h : Coupled r tx) (hup : r ≠ .uninitialized) : Coupled .linkInitialized tx where
  mailbox _ := ⟨by decide, by decide⟩
  param := h.param
  pending := h.pending
  down := ⟨fun hd => (by cases hd), fun hd => absurd (h.down.mpr hd) hup⟩

/-- The transmitter of a port that is up changes its state, and the mailbox stays as it is. -/
theorem Coupled.txState (h : Coupled r tx) (hup : tx.state ≠ .uninitialized) (hmb : tx'.mailbox = tx.mailbox)
    (hp : tx'.mailboxParam = tx.mailboxParam) (hst : tx'.state ≠ .uninitialized)
    (hlr : tx'.lrPending = true → tx'.state = .outputErrorStopped) : Coupled r tx' where
  mailbox := by rw [hmb]; exact h.mailbox
  param := by rw [hmb, hp]; exact h.param
  pending := hlr
  down := ⟨fun hd => absurd (h.down.mp hd) hup, fun hd => absurd hd hst⟩

/-- An empty mailbox asks nothing of the receiver. -/
theorem Coupled.of_noRequest (hmb : tx.mailbox = .noRequest) (hp : tx.mailboxParam = 0#5)
    (hlr : tx.lrPending = true → tx.state = .outputErrorStopped)
    (hd : r = .uninitialized ↔ tx.state = .uninitialized) : Coupled r tx where
  mailbox hm := absurd hmb hm
  param _ := hp
  pending := hlr
  down := hd

/-- Outside OUTPUT_ERROR_STOPPED no LINK_REQUEST is pending (R32). -/
theorem Coupled.not_pending (h : Coupled r tx) (hs : tx.state ≠ .outputErrorStopped) : tx.lrPending ≠ true :=
  fun hlr => hs (h.pending hlr)

end couplingPart

/-! ### The shared operations -/

section operations

variable {s t : State}

/-- An operation that keeps the invariant whenever it completes. -/
def KeepsInv (op : State → Except Fault State) : Prop := ∀ ⦃s t⦄, Inv s → op s = .ok t → Inv t

theorem inv_inc (c : CounterId) (h : Inv s) : Inv (inc c s) := h

theorem inv_response (r : Response) (h : Inv s) : Inv { s with response := r } := h

/-- A new maximum of the link latency is a counter write (R235). -/
theorem recordLatency_eq (lat : Word) (s : State) : ∃ c, recordLatency lat s = { s with counter := c } := by
  unfold recordLatency
  split
  · exact ⟨_, rfl⟩
  · exact ⟨s.counter, rfl⟩

theorem inv_setBufferStatus (p1 : Field5) (h : Inv s) : Inv (setBufferStatus p1 s) := by
  obtain ⟨hm, hrx, htx, hc⟩ := inv_iff.mp h
  exact inv_iff.mpr ⟨hm, hrx, { htx with }, { hc with }⟩

theorem inv_recordBufStatus (h : Inv s) : Inv (recordBufStatus s) := by
  obtain ⟨hm, hrx, htx, hc⟩ := inv_iff.mp h
  exact inv_iff.mpr ⟨hm, hrx, { htx with }, { hc with }⟩

theorem inv_stampFrame (a : Field5) (h : Inv s) : Inv (stampFrame a s) := by
  obtain ⟨hm, hrx, htx, hc⟩ := inv_iff.mp h
  exact inv_iff.mpr ⟨hm, hrx, { htx with }, { hc with }⟩

theorem inv_inputError {cause : Field5} (h : Inv s) (hup : s.rx.state ≠ .uninitialized)
    (hcause : ReceiverCause cause) : Inv (inputError cause s) := by
  obtain ⟨hm, hrx, htx, hc⟩ := inv_iff.mp h
  exact inv_iff.mpr ⟨hm, hrx.of_idle rfl rfl hcause, { htx with }, hc.request hup (by simp) (by simp)⟩

theorem inv_inputRetry (h : Inv s) (hup : s.rx.state ≠ .uninitialized) : Inv (inputRetry s) := by
  obtain ⟨hm, hrx, htx, hc⟩ := inv_iff.mp h
  exact inv_iff.mpr ⟨hm, hrx.of_idle rfl rfl hrx.cause, { htx with }, hc.request hup (by simp) fun _ => rfl⟩

theorem inv_inputRecover (ps : Field5) (h : Inv s) (hup : s.rx.state ≠ .uninitialized) :
    Inv (inputRecover ps s) := by
  obtain ⟨hm, hrx, htx, hc⟩ := inv_iff.mp h
  exact inv_iff.mpr ⟨hm, hrx.of_idle rfl rfl hrx.cause, { htx with }, hc.request hup (by simp) (by simp)⟩

theorem inv_outputError (h : Inv s) (hup : s.tx.state ≠ .uninitialized) : Inv (outputError s) := by
  obtain ⟨hm, hrx, htx, hc⟩ := inv_iff.mp h
  exact inv_iff.mpr ⟨hm, hrx, htx.of_start rfl rfl rfl rfl htx.status_le (fun hr => by cases hr),
    hc.txState hup rfl rfl (by simp) (by simp)⟩

/-- A transmitter that acts on acknowledgements is up, and has no LINK_REQUEST pending. -/
theorem outputActive_up (ha : outputActive s = true) :
    s.tx.state ≠ .uninitialized ∧ s.tx.state ≠ .outputErrorStopped := by
  cases hs : s.tx.state <;> simp [outputActive, hs] at ha ⊢

/-- A receiver that an error stops is up. -/
theorem inputErrorArmed_up (ha : inputErrorArmed s = true) : s.rx.state ≠ .uninitialized := by
  intro hs
  simp [inputErrorArmed, hs] at ha

end operations

/-! ### The stype0 halves -/

section stype0Halves

theorem keepsInv_onAccepted (a : Field5) : KeepsInv (onAccepted a) := by
  intro s t h ht
  rcases onAccepted_eq_ok ht with ⟨-, rfl⟩ | ⟨-, -, hw, q, hq, rfl⟩ | ⟨hact, -, rfl⟩
  · exact h
  · obtain ⟨c, hlat⟩ := recordLatency_eq (elapsedSince s (frameStamp s.tx a)) s
    rw [hlat]
    obtain ⟨hm, hrx, htx, hc⟩ := inv_iff.mp h
    exact inv_iff.mpr ⟨hm, hrx, htx.accept hw hq, { hc with }⟩
  · exact inv_outputError (inv_inc _ h) (outputActive_up hact).1

theorem inv_onRetry (a : Field5) {s : State} (h : Inv s) : Inv (onRetry a s) := by
  rcases onRetry_eq (s := s) a with ⟨-, e⟩ | ⟨hact, -, e⟩ | ⟨hact, -, e⟩
  · rwa [e]
  · rw [e]
    obtain ⟨hm, hrx, htx, hc⟩ := inv_iff.mp h
    obtain ⟨hup, hne⟩ := outputActive_up hact
    exact inv_iff.mpr ⟨hm, hrx,
      .of_no_window (queueOk_windowReset htx.queue) htx.buffer rfl rfl rfl rfl htx.status_le,
      hc.txState hup rfl rfl (by simp) fun hlr => absurd hlr (hc.not_pending hne)⟩
  · rw [e]; exact inv_outputError (inv_inc _ h) (outputActive_up hact).1

theorem inv_onNotAccepted (cause : Field5) {s : State} (h : Inv s) : Inv (onNotAccepted cause s) := by
  unfold onNotAccepted
  split
  · exact inv_outputError (inv_inc _ h) (outputActive_up ‹_›).1
  · exact inv_inc _ h

theorem inv_onStatus (a : Field5) {s : State} (h : Inv s) : Inv (onStatus a s) := by
  unfold onStatus
  split
  · rename_i hs
    obtain ⟨hs, -⟩ := hs
    obtain ⟨hm, hrx, htx, hc⟩ := inv_iff.mp h
    obtain ⟨hr, h0⟩ := hrx.not_receiving (by simp [hs])
    exact inv_iff.mpr ⟨hm, hrx.of_idle hr h0 hrx.cause, htx, hc.resume (by simp [hs])⟩
  · exact h

theorem keepsInv_onLinkResponse (a : Field5) : KeepsInv (onLinkResponse a) := by
  intro s t h ht
  rcases onLinkResponse_eq_ok ht with ⟨-, rfl⟩ | ⟨hs, hlr, hd, q, hq, rfl⟩
  · exact h
  · obtain ⟨hm, hrx, htx, hc⟩ := inv_iff.mp h
    have hqueue := queueOk_windowReset (queueOk_popFrontMany htx.queue hd hq)
    have hbuf : BufferOk s.cfg q s.txbuf := bufferOk_popFrontMany htx.buffer hq
    exact inv_iff.mpr ⟨hm, hrx, .of_no_window hqueue hbuf rfl rfl rfl rfl htx.status_le,
      hc.txState (by simp [hs]) rfl rfl (by simp) fun hp => by simp [hlr] at hp⟩

theorem keepsInv_acceptedHalf (p0 p1 : Field5) : KeepsInv (acceptedHalf p0 p1) :=
  fun _ _ h ht => keepsInv_onAccepted p0 (inv_setBufferStatus p1 h) ht

theorem keepsInv_retryHalf (p0 p1 : Field5) : KeepsInv (retryHalf p0 p1) := by
  rintro s t h ⟨⟩
  exact inv_onRetry p0 (inv_setBufferStatus p1 h)

theorem keepsInv_notAcceptedHalf (cause : Field5) : KeepsInv (notAcceptedHalf cause) := by
  rintro s t h ⟨⟩
  exact inv_onNotAccepted cause h

theorem keepsInv_statusHalf (p0 p1 : Field5) : KeepsInv (statusHalf p0 p1) := by
  rintro s t h ⟨⟩
  exact inv_onStatus p0 (inv_setBufferStatus p1 h)

theorem keepsInv_linkResponseHalf (code : Field3) (p0 : Field5) : KeepsInv (linkResponseHalf code p0) := by
  intro s t h ht
  unfold linkResponseHalf at ht
  split at ht
  · exact keepsInv_onLinkResponse p0 h ht
  · cases ht; exact h

theorem keepsInv_stype0Code (f : ControlFields) : KeepsInv (stype0Code f) := by
  intro s t h ht
  unfold stype0Code at ht
  split at ht
  · exact keepsInv_acceptedHalf _ _ h ht
  split at ht
  · exact keepsInv_retryHalf _ _ h ht
  split at ht
  · exact keepsInv_notAcceptedHalf _ h ht
  split at ht
  · exact keepsInv_statusHalf _ _ h ht
  · exact keepsInv_linkResponseHalf _ _ h ht

end stype0Halves

/-! ### The stype1 halves -/

section stype1Halves

theorem inv_of_commitPacket {s t : State} (h : Inv s) (hc : s.rx.counter ≠ 0) (ht : commitPacket s = .ok t) :
    Inv t := by
  obtain ⟨q, mem, hq, rfl⟩ := commitPacket_eq_ok ht
  obtain ⟨hm, hrx, htx, hcp⟩ := inv_iff.mp h
  exact inv_iff.mpr ⟨hm, hrx.commitBack hm hc hq, htx, hcp⟩

theorem keepsInv_onEop : KeepsInv onEop := by
  intro s t h ht
  rcases onEop_eq_ok ht with ⟨-, rfl⟩ | ⟨hs, -, rfl⟩ | ⟨hs, -, -, -, rfl⟩ | ⟨-, -, hc, -, hcommit⟩
  · exact h
  · exact inv_inputError (inv_inc _ h) (by simp [hs]) (by decide)
  · exact inv_inputError (inv_inc _ h) (by simp [hs]) (by decide)
  · exact inv_of_commitPacket h hc hcommit

theorem inv_startPacket (a : Field5) {s : State} (h : Inv s) (hs : s.rx.state = .linkInitialized) :
    Inv (startPacket a s) := by
  rcases startPacket_eq (s := s) a with ⟨-, e⟩ | ⟨-, -, e⟩ | ⟨-, ha, e⟩
  · rw [e]; exact inv_inputError (inv_inc _ h) (by simp [hs]) (by decide)
  · rw [e]; exact inv_inputRetry h (by simp [hs])
  · rw [e]
    obtain ⟨hm, hrx, htx, hc⟩ := inv_iff.mp h
    exact inv_iff.mpr ⟨hm, hrx.startPacket hs ha, htx, hc⟩

theorem keepsInv_onSop (a : Field5) : KeepsInv (onSop a) := by
  intro s t h ht
  rcases onSop_eq_ok ht with ⟨-, rfl⟩ | ⟨hs, -, rfl⟩ | ⟨-, -, v, hv, ⟨-, rfl⟩ | ⟨hs, rfl⟩⟩
  · exact h
  · exact inv_startPacket a h hs
  · exact keepsInv_onEop h hv
  · exact inv_startPacket a (keepsInv_onEop h hv) hs

theorem inv_onStomp {s : State} (h : Inv s) : Inv (onStomp s) := by
  unfold onStomp
  split
  · obtain ⟨hm, hrx, htx, hc⟩ := inv_iff.mp h
    exact inv_iff.mpr ⟨hm, hrx.of_idle rfl rfl hrx.cause, htx, hc⟩
  · exact h

theorem inv_onRestartFromRetry {s : State} (h : Inv s) : Inv (onRestartFromRetry s) := by
  unfold onRestartFromRetry
  split
  · rename_i hs
    obtain ⟨hm, hrx, htx, hc⟩ := inv_iff.mp h
    obtain ⟨hr, h0⟩ := hrx.not_receiving (by simp [hs])
    exact inv_iff.mpr ⟨hm, hrx.of_idle hr h0 hrx.cause, htx, hc.resume (by simp [hs])⟩
  · exact h

theorem inv_linkRequestHalf (cmd : Field3) {s : State} (h : Inv s) : Inv (linkRequestHalf cmd s) := by
  unfold linkRequestHalf onLinkRequest
  split
  · split
    · exact inv_inc _ h
    · rename_i hs
      exact inv_inputRecover _ (inv_inc _ h) fun hd => hs (.inl hd)
  · exact h

theorem keepsInv_ok {op : State → State} (h : ∀ {s}, Inv s → Inv (op s)) : KeepsInv fun s => .ok (op s) := by
  rintro s t hs ⟨⟩
  exact h hs

theorem keepsInv_stype1Code (f : ControlFields) : KeepsInv (stype1Code f) := by
  intro s t h ht
  unfold stype1Code at ht
  split at ht
  · exact keepsInv_onSop _ h ht
  split at ht
  · exact keepsInv_ok inv_onStomp h ht
  split at ht
  · exact keepsInv_onEop h ht
  split at ht
  · exact keepsInv_ok inv_onRestartFromRetry h ht
  split at ht
  · exact keepsInv_ok (inv_linkRequestHalf f.cmd) h ht
  · exact keepsInv_ok (op := id) id h ht

end stype1Halves

/-! ### Whole symbols -/

section symbols

theorem inv_errorSymbol {s : State} (h : Inv s) : Inv (errorSymbol s) := by
  unfold errorSymbol
  split
  · exact inv_inputError (inv_inc _ h) (inputErrorArmed_up ‹_›) (by decide)
  · exact inv_inc _ h

theorem inv_badCrcSymbol {s : State} (h : Inv s) : Inv (badCrcSymbol s) := by
  unfold badCrcSymbol
  split
  · exact inv_inputError (inv_inc _ h) (inputErrorArmed_up ‹_›) (by decide)
  · exact inv_inc _ h

theorem keepsInv_dataSymbol (w : Word) : KeepsInv (dataSymbol w) := by
  intro s t h ht
  rcases dataSymbol_eq_ok ht with ⟨-, rfl⟩ | ⟨hs, -, rfl⟩ | ⟨-, hr, hc, mem, hst, rfl⟩
  · exact h
  · exact inv_inputError (inv_inc _ h) (by simp [hs]) (by decide)
  · obtain ⟨hm, hrx, htx, hcp⟩ := inv_iff.mp h
    exact inv_iff.mpr ⟨hm, hrx.stageWord hr hc hst, htx, hcp⟩

theorem keepsInv_stype0Step (f : ControlFields) {half : State → Except Fault State} (hh : KeepsInv half) :
    KeepsInv (stype0Step f half) := by
  intro s t h ht
  by_cases hsop : f.stype1 = stype1Sop
  · rw [stype0Step_sop hsop] at ht
    cases ht; exact inv_setBufferStatus _ h
  · rw [stype0Step_half hsop] at ht
    exact hh h ht

theorem inv_countUnsupported (f : ControlFields) {s : State} (h : Inv s) : Inv (countUnsupported f s) := by
  rcases countUnsupported_eq (s := s) f with e | e
  · rwa [e]
  · rw [e]; exact inv_inc _ h

theorem keepsInv_controlSymbolWith (f : ControlFields) {half0 half1 : State → Except Fault State}
    (hh0 : KeepsInv half0) (hh1 : KeepsInv half1) : KeepsInv (controlSymbolWith f half0 half1) := by
  intro s t h ht
  rcases controlSymbolWith_eq_ok.mp ht with ⟨-, rfl⟩ | ⟨-, u, v, hu, hv, rfl⟩
  · exact inv_badCrcSymbol h
  · exact inv_countUnsupported f (hh1 (keepsInv_stype0Step f hh0 h hu) hv)

theorem keepsInv_controlSymbol (c : Body) : KeepsInv (controlSymbol c) :=
  keepsInv_controlSymbolWith _ (keepsInv_stype0Code _) (keepsInv_stype1Code _)

theorem keepsInv_whenPortUp {handle : State → Except Fault State} (hh : KeepsInv handle) :
    KeepsInv (whenPortUp handle) := by
  intro s t h ht
  by_cases hs : s.rx.state = .uninitialized
  · rw [whenPortUp_down hs] at ht
    cases ht; exact h
  · rw [whenPortUp_up hs] at ht
    exact hh h ht

theorem keepsInv_addSymbol (sym : Symbol) : KeepsInv (addSymbol sym) := by
  refine keepsInv_whenPortUp ?_
  cases sym with
  | idle => exact keepsInv_ok (op := id) id
  | error => exact keepsInv_ok inv_errorSymbol
  | data w => exact keepsInv_dataSymbol w
  | control c => exact keepsInv_controlSymbol c

end symbols

/-! ### PORT_GET_SYMBOL -/

section emission

variable {s t : State} {sym : Symbol}

/-- A symbol that carries `bs` records it, and its operation leaves nothing else (R221). -/
theorem inv_of_emitSt {p0 : Field5} {s1 cmd : Field3} (h : Inv s) (ht : (t, sym) = emitSt p0 s1 cmd s) : Inv t := by
  cases ht; exact inv_recordBufStatus h

theorem inv_of_mailboxSymbol (h : Inv s) (ht : (t, sym) = mailboxSymbol s) : Inv t := by
  have hclear : Inv { s with tx := { s.tx with mailbox := .noRequest, mailboxParam := 0#5 } } := by
    obtain ⟨hm, hrx, htx, hc⟩ := inv_iff.mp h
    exact inv_iff.mpr ⟨hm, hrx, { htx with }, .of_noRequest rfl rfl hc.pending hc.down⟩
  unfold mailboxSymbol at ht
  split at ht
  · cases ht; exact inv_recordBufStatus hclear
  · cases ht; exact hclear
  · cases ht; exact hclear
  · cases ht; exact h

theorem inv_of_ackSymbol (h : Inv s) (ht : (t, sym) = ackSymbol s) : Inv t := by
  cases ht
  obtain ⟨hm, hrx, htx, hc⟩ := inv_iff.mp h
  exact inv_recordBufStatus (inv_iff.mpr ⟨hm, { hrx with }, htx, hc⟩)

theorem inv_of_emitLinkRequest (h : Inv s) (ht : (t, sym) = emitLinkRequest s) : Inv t :=
  inv_of_emitSt (inv_stampFrame _ h) ht

theorem inv_of_timeoutLinkRequest (h : Inv s) (hs : s.tx.state = .linkInitialized)
    (ht : (t, sym) = timeoutLinkRequest s) : Inv t := by
  refine inv_of_emitLinkRequest ?_ ht
  obtain ⟨hm, hrx, htx, hc⟩ := inv_iff.mp h
  exact inv_iff.mpr ⟨hm, hrx, htx.of_start rfl rfl rfl rfl htx.status_le (fun hr => by cases hr),
    hc.txState (by simp [hs]) rfl rfl (by simp) fun hp => by cases hp⟩

theorem inv_of_errorLinkRequest (h : Inv s) (ht : (t, sym) = errorLinkRequest s) : Inv t := by
  refine inv_of_emitLinkRequest ?_ ht
  obtain ⟨hm, hrx, htx, hc⟩ := inv_iff.mp h
  exact inv_iff.mpr ⟨hm, hrx, { htx with }, { hc with pending := fun hp => by cases hp }⟩

theorem inv_of_restartSymbol (h : Inv s) (hs : s.tx.state = .outputRetryStopped)
    (ht : (t, sym) = restartSymbol s) : Inv t := by
  refine inv_of_emitSt ?_ ht
  obtain ⟨hm, hrx, htx, hc⟩ := inv_iff.mp h
  obtain ⟨hf, h0⟩ := htx.frame_start (by simp [hs])
  exact inv_iff.mpr ⟨hm, hrx, htx.of_start hf h0 rfl rfl htx.status_le (fun hr => by cases hr),
    hc.txState (by simp [hs]) rfl rfl (by simp) fun hp => absurd hp (hc.not_pending (by simp [hs]))⟩

theorem inv_of_statusSymbol (h : Inv s) (hs : s.tx.state = .portInitialized)
    (ht : (t, sym) = statusSymbol s) : Inv t := by
  refine inv_of_emitSt ?_ ht
  obtain ⟨hm, hrx, htx, hc⟩ := inv_iff.mp h
  obtain ⟨hf, h0⟩ := htx.frame_start (by simp [hs])
  refine inv_iff.mpr ⟨hm, hrx, htx.of_start hf h0 rfl rfl (Nat.min_le_right _ _) ?_,
    hc.txState (by simp [hs]) rfl rfl ?_ fun hp => absurd hp (hc.not_pending (by simp [hs]))⟩
  · simp only [hs]; split <;> simp
  · simp only [hs]; split <;> simp

/-- `can_start()` leaves room in the window (R240, R51.6). -/
theorem canStart_window (h : canStart s = true) : 0 < windowAvailable s.txq ∧ s.txq.windowSize < 31 := by
  obtain ⟨hav, hw⟩ := (Bool.and_eq_true ..).mp h
  exact ⟨of_decide_eq_true hav, lt_of_lt_of_le (of_decide_eq_true hw) (Nat.min_le_right _ _)⟩

theorem inv_of_sopSymbol (h : Inv s) (hs : s.tx.state = .linkInitialized) (hcan : canStart s = true)
    (ht : (t, sym) = sopSymbol s) : Inv t := by
  refine inv_of_emitSt ?_ ht
  obtain ⟨hm, hrx, htx, hc⟩ := inv_iff.mp h
  obtain ⟨hav, hw⟩ := canStart_window hcan
  exact inv_iff.mpr ⟨hm, hrx, htx.startFrame hs hav hw, { hc with }⟩

theorem inv_of_eopSymbol (h : Inv s) (hf : s.tx.frameState = .body) (ht : eopSymbol s = .ok (t, sym)) : Inv t := by
  unfold eopSymbol at ht
  split at ht
  · cases ht
  · rename_i q hq
    refine inv_of_emitSt ?_ (Except.ok.inj ht).symm
    obtain ⟨hm, hrx, htx, hc⟩ := inv_iff.mp h
    exact inv_iff.mpr ⟨hm, hrx, htx.endFrame hf hq, { hc with }⟩

theorem inv_of_dataOrEopSymbol (h : Inv s) (hf : s.tx.frameState = .body)
    (ht : dataOrEopSymbol s = .ok (t, sym)) : Inv t := by
  obtain ⟨pkt, hp, ⟨x, hx, -, rfl⟩ | ⟨-, heop⟩⟩ := dataOrEopSymbol_eq_ok ht
  · obtain ⟨hm, hrx, htx, hc⟩ := inv_iff.mp h
    have hlt : s.tx.counter < pkt.length := (List.getElem?_eq_some_iff.mp hx).1
    exact inv_iff.mpr ⟨hm, hrx, htx.sendWord hf (lt_of_lt_of_le hlt (htx.windowPacket_length hp)), { hc with }⟩
  · exact inv_of_eopSymbol h hf heop

/-- Every case of R220 keeps the invariant. -/
theorem inv_of_getSymbol (h : Inv s) (ht : getSymbol s = .ok (t, sym)) : Inv t := by
  rcases getSymbol_eq_ok ht with ⟨-, rfl, -⟩ | ⟨-, -, e⟩ | ⟨-, -, -, e⟩ | ⟨-, hcases⟩
  · exact h
  · exact inv_of_mailboxSymbol h e
  · exact inv_of_ackSymbol h e
  rcases hcases with ⟨hs, -, -, e⟩ | ⟨-, -, -, e⟩ | ⟨-, -, e⟩ | ⟨hs, e⟩ | ⟨hs, e⟩ | ⟨hs, -, -, hcan, e⟩ |
    ⟨-, -, hf, e⟩ | ⟨-, e⟩ | ⟨-, rfl, -⟩
  · exact inv_of_timeoutLinkRequest h hs e
  · exact inv_of_emitLinkRequest (inv_inc _ h) e
  · exact inv_of_errorLinkRequest h e
  · exact inv_of_restartSymbol h hs e
  · exact inv_of_statusSymbol h hs e
  · exact inv_of_sopSymbol h hs hcan e
  · exact inv_of_dataOrEopSymbol h hf e
  · exact inv_of_emitSt h e
  · exact h

end emission

/-! ### The host operations -/

section hostOperations

variable {s t : State}

/-- The registers of the OPEN column of R50 meet the invariant, whatever words stand in the buffers. -/
theorem inv_of_openRegisters (hm : s.cfg.m < 2 ^ 32) (hrb : Memory.wf s.rxbuf) (htb : Memory.wf s.txbuf)
    (hrx : s.rx = rxCleared .uninitialized) (htx : s.tx = txCleared .uninitialized)
    (hrq : s.rxq = queueInit s.cfg.rxWords s.cfg.slotWords)
    (htq : s.txq = queueInit s.cfg.txWords s.cfg.slotWords) : Inv s := by
  refine inv_iff.mpr ⟨hm, ?_, ?_, ?_⟩
  · rw [hrx, hrq]
    exact ⟨queueOk_queueInit .., rfl, bufferOk_queueInit _ _ hrb, fun hr => (by cases hr), fun _ => rfl,
      Nat.zero_le _, fun k hk => absurd hk (Nat.not_lt_zero k), by decide⟩
  · rw [htx, htq]
    exact .of_no_window (queueOk_queueInit ..) (bufferOk_queueInit _ _ htb) rfl rfl rfl rfl (Nat.zero_le _)
  · rw [hrx, htx]
    exact .of_noRequest rfl rfl (fun hp => by cases hp) (by decide)

theorem inv_linkUp (h : Inv s) : Inv (linkUp s) := by
  unfold linkUp
  split
  · obtain ⟨hm, hrx, htx, hc⟩ := inv_iff.mp h
    exact inv_iff.mpr ⟨hm, hrx.of_idle rfl rfl (by simp [rxCleared]),
      .of_no_window (queueOk_windowReset htx.queue) htx.buffer rfl rfl rfl rfl (Nat.zero_le _),
      .of_noRequest rfl rfl (fun hp => by cases hp) (by simp [rxCleared, txCleared])⟩
  · exact h

theorem inv_linkDrop (h : Inv s) : Inv (linkDrop s) := by
  obtain ⟨hm, hrx, htx, hc⟩ := inv_iff.mp h
  exact inv_iff.mpr ⟨hm, hrx.of_idle rfl rfl hrx.cause,
    htx.of_start rfl rfl rfl rfl htx.status_le (fun hr => by cases hr),
    .of_noRequest rfl rfl (fun hp => by cases hp) (by simp [linkDrop])⟩

theorem inv_of_finish {op : State → Except Fault State} (hop : KeepsInv op) (h : Inv s)
    (ht : finish (op s) = .next t) : Inv t := by
  obtain ⟨u, hu, rfl⟩ := finish_eq_next.mp ht
  exact inv_response _ (hop h hu)

theorem inv_of_finishResult {r : Word} (h : Inv s) (ht : finishResult r s = .next t) : Inv t := by
  cases ht; exact inv_response _ h

theorem inv_of_deliverByStype0 {f : ControlFields} {half : State → Except Fault State} (hh : KeepsInv half)
    (h : Inv s) (ht : deliverByStype0 f half s = .next t) : Inv t :=
  inv_of_finish (keepsInv_whenPortUp (keepsInv_controlSymbolWith f hh (keepsInv_stype1Code f))) h ht

theorem inv_of_deliverByStype1 {f : ControlFields} {half : State → Except Fault State} (hh : KeepsInv half)
    (h : Inv s) (ht : deliverByStype1 f half s = .next t) : Inv t :=
  inv_of_finish (keepsInv_whenPortUp (keepsInv_controlSymbolWith f (keepsInv_stype0Code f) hh)) h ht

theorem inv_of_execOpenOp (h : Inv s) (ht : execOpenOp s = .next t) : Inv t := by
  obtain ⟨hm, hrx, htx, -⟩ := inv_iff.mp h
  cases ht
  exact inv_of_openRegisters hm hrx.buffer.1 htx.buffer.1 rfl rfl rfl rfl

theorem inv_of_execPortSetStatus {arg : Word} (h : Inv s) (ht : execPortSetStatus arg s = .next t) : Inv t := by
  unfold execPortSetStatus at ht
  cases ht
  refine inv_response _ ?_
  split
  · exact inv_linkDrop h
  · exact inv_linkUp h

theorem inv_of_execPortGetSymbol (h : Inv s) (ht : execPortGetSymbol s = .next t) : Inv t := by
  obtain ⟨u, sym, hu, rfl⟩ := execPortGetSymbol_eq_next.mp ht
  exact inv_response _ (inv_of_getSymbol h hu)

theorem inv_of_execSetOutboundPacket {pkt : Packet} (h : Inv s) (ht : execSetOutboundPacket pkt s = .next t) :
    Inv t := by
  unfold execSetOutboundPacket at ht
  split at ht
  · exact inv_of_finishResult h ht
  · rename_i hlen
    split at ht
    · cases ht
    · rename_i q mem hq
      simp only [not_or, not_lt] at hlen
      obtain ⟨-, h1, hle⟩ := hlen
      obtain ⟨hm, hrx, htx, hc⟩ := inv_iff.mp h
      have hinv : Inv { s with txq := q, txbuf := mem } := inv_iff.mpr ⟨hm, hrx, htx.pushBack hm h1 hle hq, hc⟩
      exact inv_of_finishResult hinv ht

theorem inv_of_execGetInboundPacket (h : Inv s) (ht : execGetInboundPacket s = .next t) : Inv t := by
  unfold execGetInboundPacket at ht
  split at ht
  · exact inv_of_finishResult h ht
  split at ht
  · cases ht
  split at ht
  · cases ht
  · rename_i q hq
    cases ht
    obtain ⟨hm, hrx, htx, hc⟩ := inv_iff.mp h
    exact inv_iff.mpr ⟨hm, hrx.popFront hq, htx, hc⟩

end hostOperations

/-! ### Every instruction, every step, every run -/

/-- Every instruction keeps the invariant. -/
theorem exec_keeps_inv {s t : State} (i : Instr) (h : Inv s) (ht : exec i s = .next t) : Inv t := by
  have hid : KeepsInv Except.ok := keepsInv_ok (op := id) id
  cases i with
  | openOp => exact inv_of_execOpenOp h ht
  | portSetTime t => cases ht; exact h
  | portSetTimeout dt => cases ht; exact h
  | portSetStatus arg => exact inv_of_execPortSetStatus h ht
  | portAddSymbol sym => exact inv_of_finish (keepsInv_addSymbol sym) h ht
  | portGetSymbol => exact inv_of_execPortGetSymbol h ht
  | setOutboundPacket pkt => exact inv_of_execSetOutboundPacket h ht
  | getInboundPacket => exact inv_of_execGetInboundPacket h ht
  | getInboundQueueLength => exact inv_of_finishResult h ht
  | getInboundQueueAvailable => exact inv_of_finishResult h ht
  | getOutboundQueueLength => exact inv_of_finishResult h ht
  | getOutboundQueueAvailable => exact inv_of_finishResult h ht
  | getLinkIsInitialized => exact inv_of_finishResult h ht
  | getStatus => exact inv_of_finishResult h ht
  | getCounter id => exact inv_of_finishResult h ht
  | reservedOp0F => exact inv_of_finish hid h ht
  | reservedOp10To1F op => exact inv_of_finish hid h ht
  | reservedOp20To3F op => exact inv_of_finish hid h ht
  | reservedOp40To7F op => exact inv_of_finish hid h ht
  | reservedOp80ToFF op => exact inv_of_finish hid h ht
  | symIdle => exact inv_of_finish hid h ht
  | symControl c => exact inv_of_finish (keepsInv_whenPortUp (keepsInv_controlSymbol c)) h ht
  | symData w => exact inv_of_finish (keepsInv_whenPortUp (keepsInv_dataSymbol w)) h ht
  | symError => exact inv_of_finish (keepsInv_whenPortUp (keepsInv_ok inv_errorSymbol)) h ht
  | packetAccepted p0 p1 s1 cmd crc => exact inv_of_deliverByStype0 (keepsInv_acceptedHalf p0 p1) h ht
  | packetRetry p0 p1 s1 cmd crc => exact inv_of_deliverByStype0 (keepsInv_retryHalf p0 p1) h ht
  | packetNotAccepted p0 p1 s1 cmd crc => exact inv_of_deliverByStype0 (keepsInv_notAcceptedHalf p1) h ht
  | status p0 p1 s1 cmd crc => exact inv_of_deliverByStype0 (keepsInv_statusHalf p0 p1) h ht
  | linkResponse p0 p1 s1 cmd crc => exact inv_of_deliverByStype0 (keepsInv_linkResponseHalf 5#3 p0) h ht
  | stype0Reserved3 p0 p1 s1 cmd crc => exact inv_of_deliverByStype0 (keepsInv_linkResponseHalf 3#3 p0) h ht
  | stype0Reserved6 p0 p1 s1 cmd crc => exact inv_of_deliverByStype0 (keepsInv_linkResponseHalf 6#3 p0) h ht
  | stype0Reserved7 p0 p1 s1 cmd crc => exact inv_of_deliverByStype0 (keepsInv_linkResponseHalf 7#3 p0) h ht
  | startOfPacket s0 p0 p1 cmd crc => exact inv_of_deliverByStype1 (keepsInv_onSop p0) h ht
  | stomp s0 p0 p1 cmd crc => exact inv_of_deliverByStype1 (keepsInv_ok inv_onStomp) h ht
  | endOfPacket s0 p0 p1 cmd crc => exact inv_of_deliverByStype1 keepsInv_onEop h ht
  | restartFromRetry s0 p0 p1 cmd crc => exact inv_of_deliverByStype1 (keepsInv_ok inv_onRestartFromRetry) h ht
  | multicastEvent s0 p0 p1 cmd crc => exact inv_of_deliverByStype1 hid h ht
  | nop s0 p0 p1 cmd crc => exact inv_of_deliverByStype1 hid h ht
  | linkRequestInputStatus s0 p0 p1 crc => exact inv_of_deliverByStype1 (keepsInv_ok (inv_linkRequestHalf 4#3)) h ht
  | linkRequestCmd0 s0 p0 p1 crc => exact inv_of_deliverByStype1 (keepsInv_ok (inv_linkRequestHalf 0#3)) h ht
  | linkRequestCmd1 s0 p0 p1 crc => exact inv_of_deliverByStype1 (keepsInv_ok (inv_linkRequestHalf 1#3)) h ht
  | linkRequestCmd2 s0 p0 p1 crc => exact inv_of_deliverByStype1 (keepsInv_ok (inv_linkRequestHalf 2#3)) h ht
  | linkRequestCmd3 s0 p0 p1 crc => exact inv_of_deliverByStype1 (keepsInv_ok (inv_linkRequestHalf 3#3)) h ht
  | linkRequestCmd5 s0 p0 p1 crc => exact inv_of_deliverByStype1 (keepsInv_ok (inv_linkRequestHalf 5#3)) h ht
  | linkRequestCmd6 s0 p0 p1 crc => exact inv_of_deliverByStype1 (keepsInv_ok (inv_linkRequestHalf 6#3)) h ht
  | linkRequestCmd7 s0 p0 p1 crc => exact inv_of_deliverByStype1 (keepsInv_ok (inv_linkRequestHalf 7#3)) h ht
  | stype1Reserved6 s0 p0 p1 cmd crc => exact inv_of_deliverByStype1 hid h ht

/-- Every step keeps the invariant: it runs one instruction, or changes nothing. -/
theorem step_keeps_inv {s t : State} (h : Inv s) (ht : step s = .next t) : Inv t := by
  unfold step runNext at ht
  split at ht
  · cases ht; exact h
  · exact exec_keeps_inv _ (show Inv (takeInput s) from h) ht

/-- The invariant holds after power-on (R330). -/
theorem inv_powerOn {cfg : Config} (hm : cfg.m < 2 ^ 32) : Inv (State.powerOn cfg) :=
  inv_of_openRegisters hm .nil .nil rfl rfl rfl rfl

/-- Every reachable state has the invariant. -/
theorem reachable_inv {cfg : Config} {s : State} (hm : cfg.m < 2 ^ 32) (h : Reachable cfg s) : Inv s := by
  induction h with
  | powerOn => exact inv_powerOn hm
  | issue x s _ ih => exact ih
  | step s t _ hst ih => exact step_keeps_inv ih hst

/-- A queue without a window has `window_index` at the front (R51.4). -/
theorem windowIndex_eq_frontIndex {cfg : Config} {words : Nat} {q : Queue} (hq : QueueOk cfg words q)
    (hw : q.windowSize = 0) : q.windowIndex = q.frontIndex := by
  obtain ⟨-, -, -, hi, h0⟩ := hq
  rcases Nat.eq_zero_or_pos q.size with hz | hpos
  · obtain ⟨hf, -, hwi⟩ := h0 hz
    rw [hf, hwi]
  · obtain ⟨hf, -, hwi⟩ := hi hpos
    rw [hwi, hw, Nat.add_zero, Nat.mod_eq_of_lt hf]

/-- Settles O12: the invariant holds in every reachable state, and its parts give the nine items of R51. -/
theorem reachableStatesMeetR51 : Obligations.ReachableStatesMeetR51 := by
  intro cfg s hm hreach
  obtain ⟨-, hrx, htx, hc⟩ := inv_iff.mp (reachable_inv hm hreach)
  obtain ⟨-, hra, -⟩ := hrx.queue
  obtain ⟨-, hta, htw, hti, -⟩ := htx.queue
  have ackid_le : ∀ a : Field5, a.toNat ≤ 31 := fun a => Nat.le_of_lt_succ a.isLt
  refine ⟨?freeAndUsed, ?ackidRange, ?txWindow, ?rxWindow, htx.ackids, htx.window_le, hrx.receiving, ?frame, hc.mailbox⟩
  case freeAndUsed => exact ⟨Nat.add_sub_cancel' hra, Nat.add_sub_cancel' hta, hra, hta⟩
  case ackidRange => exact ⟨ackid_le _, ackid_le _, ackid_le _, ackid_le _⟩
  case txWindow =>
    refine ⟨htw, fun hpos => ?_⟩
    obtain ⟨-, -, hwi⟩ := hti hpos
    exact hwi
  case rxWindow => exact ⟨hrx.noWindow, windowIndex_eq_frontIndex hrx.queue hrx.noWindow⟩
  case frame =>
    intro hb
    obtain ⟨hs, hlt, -⟩ := htx.body hb
    exact ⟨hs, hlt⟩

end Sys2Proof.Machine
end

section
/-!
What the block emits (R94): every symbol that PORT_GET_SYMBOL returns is Idle, a data word or a control symbol of a row
of the table of R94, and every other instruction returns Idle.
-/

namespace Sys2Proof.Machine

/-! ### The CRC-5 of a built symbol -/

/-- The CRC field is none of the bits the CRC-5 covers (R150). -/
theorem crcCovered_bodyOf_crc5 (f : ControlFields) (crc : Field5) :
    crcCovered (bodyOf { f with crc5 := crc }) = crcCovered (bodyOf f) := by
  apply BitVec.eq_of_getLsbD_eq
  intro i hi
  have hcrc : ¬ 5 + i < 5 := by omega
  simp only [crcCovered, BitVec.getLsbD_extractLsb', getLsbD_bodyOf, if_neg hcrc]

/-- A built control symbol is valid (R151, R152). -/
@[simp] theorem crcGood_controlSymbolOf (s0 : Field3) (p0 p1 : Field5) (s1 cmd : Field3) :
    crcGood (controlSymbolOf s0 p0 p1 s1 cmd) = true := by
  have hcov := crcCovered_bodyOf_crc5 ⟨s0, p0, p1, s1, cmd, 0#5⟩
  simp only [crcGood, controlSymbolOf, fieldsOf_bodyOf, hcov, beq_self_eq_true]

/-! ### The forms of R94 -/

/-- The control symbols that a block in state `s` can emit, one constructor per row of R94; the STATUS of R229 and the
buffer-status update of R233 are one form. -/
inductive EmittedBody (s : State) : Body → Prop where
  | retry : EmittedBody s (controlSymbolOf stype0Retry s.rx.ackid (bufStatus s) stype1Nop 0#3)
  | notAccepted : EmittedBody s (controlSymbolOf stype0Nacc s.rx.ackid s.tx.mailboxParam stype1Nop 0#3)
  | linkResponse :
    EmittedBody s (controlSymbolOf s.cfg.stype0LinkResponse s.rx.ackid s.tx.mailboxParam stype1Nop 0#3)
  | accepted : EmittedBody s (controlSymbolOf stype0Acc s.rx.ackidAcked (bufStatus s) stype1Nop 0#3)
  | linkRequest :
    EmittedBody s (controlSymbolOf stype0Status s.rx.ackid (bufStatus s) stype1Lreq s.cfg.lreqInputStatus)
  | restart : EmittedBody s (controlSymbolOf stype0Status s.rx.ackid (bufStatus s) stype1Rfr 0#3)
  | status : EmittedBody s (controlSymbolOf stype0Status s.rx.ackid (bufStatus s) stype1Nop 0#3)
  | startOfPacket : EmittedBody s (controlSymbolOf stype0Status s.tx.ackidWindow (bufStatus s) stype1Sop 0#3)
  | endOfPacket : EmittedBody s (controlSymbolOf stype0Status s.rx.ackid (bufStatus s) stype1Eop 0#3)

/-- The symbols that a block in state `s` can emit: Error is none of them (R84). -/
inductive EmittedSymbol (s : State) : Symbol → Prop where
  | idle : EmittedSymbol s .idle
  | data (w : Word) : EmittedSymbol s (.data w)
  | control {c : Body} (h : EmittedBody s c) : EmittedSymbol s (.control c)

theorem crcGood_of_emittedBody {s : State} {c : Body} (h : EmittedBody s c) : crcGood c = true := by
  cases h <;> exact crcGood_controlSymbolOf ..

/-! ### PORT_GET_SYMBOL -/

section emittedForms

variable {s t : State} {sym : Symbol}

/-- A waiting request is answered in its own form (R223). -/
theorem emittedSymbol_mailboxSymbol (s : State) : EmittedSymbol s (mailboxSymbol s).2 := by
  unfold mailboxSymbol
  split
  · exact .control .retry
  · exact .control .notAccepted
  · exact .control .linkResponse
  · exact .idle

/-- The body of a frame is a data word, or its END_OF_PACKET (R231, R232). -/
theorem emittedSymbol_of_dataOrEopSymbol (h : dataOrEopSymbol s = .ok (t, sym)) : EmittedSymbol s sym := by
  obtain ⟨pkt, -, ⟨x, -, rfl, -⟩ | ⟨-, heop⟩⟩ := dataOrEopSymbol_eq_ok h
  · exact .data x
  · unfold eopSymbol at heop
    split at heop
    · cases heop
    · cases heop; exact .control .endOfPacket

/-- Every case of R220 emits one of the forms of R94. -/
theorem emittedSymbol_of_getSymbol (h : getSymbol s = .ok (t, sym)) : EmittedSymbol s sym := by
  rcases getSymbol_eq_ok h with ⟨-, -, rfl⟩ | ⟨-, -, e⟩ | ⟨-, -, -, e⟩ | ⟨-, hcases⟩
  · exact .idle
  · obtain rfl : sym = (mailboxSymbol s).2 := congrArg Prod.snd e
    exact emittedSymbol_mailboxSymbol s
  · cases e; exact .control .accepted
  rcases hcases with ⟨-, -, -, e⟩ | ⟨-, -, -, e⟩ | ⟨-, -, e⟩ | ⟨-, e⟩ | ⟨-, e⟩ | ⟨-, -, -, -, e⟩ |
    ⟨-, -, -, e⟩ | ⟨-, e⟩ | ⟨-, -, rfl⟩
  · cases e; exact .control .linkRequest
  · cases e; exact .control .linkRequest
  · cases e; exact .control .linkRequest
  · cases e; exact .control .restart
  · cases e; exact .control .status
  · cases e; exact .control .startOfPacket
  · exact emittedSymbol_of_dataOrEopSymbol e
  · cases e; exact .control .status
  · exact .idle

theorem emittedSymbol_of_execPortGetSymbol (h : execPortGetSymbol s = .next t) : EmittedSymbol s t.response.sym := by
  obtain ⟨u, sym, hu, rfl⟩ := execPortGetSymbol_eq_next.mp h
  exact emittedSymbol_of_getSymbol hu

end emittedForms

/-! ### Every other instruction -/

section idleResponses

variable {s t : State}

theorem sym_idle_of_finish {r : Except Fault State} (h : finish r = .next t) : t.response.sym = .idle := by
  obtain ⟨u, -, rfl⟩ := finish_eq_next.mp h
  rfl

theorem sym_idle_of_finishResult {r : Word} (h : finishResult r s = .next t) : t.response.sym = .idle := by
  cases h; rfl

theorem sym_idle_of_execSetOutboundPacket {pkt : Packet} (h : execSetOutboundPacket pkt s = .next t) :
    t.response.sym = .idle := by
  unfold execSetOutboundPacket at h
  split at h
  · exact sym_idle_of_finishResult h
  split at h
  · cases h
  · exact sym_idle_of_finishResult h

/-- A packet taken from the inbound queue comes with no symbol (R97, R277). -/
theorem sym_idle_of_execGetInboundPacket (h : execGetInboundPacket s = .next t) : t.response.sym = .idle := by
  unfold execGetInboundPacket at h
  split at h
  · exact sym_idle_of_finishResult h
  split at h
  · cases h
  split at h
  · cases h
  · cases h; rfl

/-- PORT_GET_SYMBOL alone returns a symbol (R97): the other operations end with a result, with a packet, or with
neither, and the delivery of a symbol ends with neither (R278). -/
theorem sym_idle_of_exec {i : Instr} (hi : i ≠ .portGetSymbol) (h : exec i s = .next t) :
    t.response.sym = .idle := by
  cases i with
  | portGetSymbol => exact absurd rfl hi
  | setOutboundPacket pkt => exact sym_idle_of_execSetOutboundPacket h
  | getInboundPacket => exact sym_idle_of_execGetInboundPacket h
  | getInboundQueueLength => exact sym_idle_of_finishResult h
  | getInboundQueueAvailable => exact sym_idle_of_finishResult h
  | getOutboundQueueLength => exact sym_idle_of_finishResult h
  | getOutboundQueueAvailable => exact sym_idle_of_finishResult h
  | getLinkIsInitialized => exact sym_idle_of_finishResult h
  | getStatus => exact sym_idle_of_finishResult h
  | getCounter id => exact sym_idle_of_finishResult h
  | openOp => exact sym_idle_of_finish (r := .ok _) h
  | portSetTime time => exact sym_idle_of_finish (r := .ok _) h
  | portSetTimeout dt => exact sym_idle_of_finish (r := .ok _) h
  | portSetStatus arg => exact sym_idle_of_finish (r := .ok _) h
  | reservedOp0F => exact sym_idle_of_finish (r := .ok _) h
  | reservedOp10To1F op => exact sym_idle_of_finish (r := .ok _) h
  | reservedOp20To3F op => exact sym_idle_of_finish (r := .ok _) h
  | reservedOp40To7F op => exact sym_idle_of_finish (r := .ok _) h
  | reservedOp80ToFF op => exact sym_idle_of_finish (r := .ok _) h
  | symIdle => exact sym_idle_of_finish (r := .ok _) h
  | _ => exact sym_idle_of_finish h

end idleResponses

/-- Settles O57: a case of R220 decides the form of the symbol, and no other operation returns one. -/
theorem emittedSymbolsHaveTheirForms : Obligations.EmittedSymbolsHaveTheirForms := by
  refine ⟨fun s t h => ?_, fun i s t hi h => sym_idle_of_exec hi h⟩
  have hsym : EmittedSymbol s t.response.sym := emittedSymbol_of_execPortGetSymbol h
  generalize t.response.sym = sym at hsym ⊢
  cases hsym with
  | idle => exact .inl rfl
  | data w => exact .inr (.inl ⟨w, rfl⟩)
  | @control c hc =>
    refine .inr (.inr ⟨c, rfl, crcGood_of_emittedBody hc, ?_⟩)
    cases hc with
    | retry => exact .inl rfl
    | notAccepted => exact .inr (.inl rfl)
    | linkResponse => exact .inr (.inr (.inl rfl))
    | accepted => exact .inr (.inr (.inr (.inl rfl)))
    | linkRequest => exact .inr (.inr (.inr (.inr (.inl rfl))))
    | restart => exact .inr (.inr (.inr (.inr (.inr (.inl rfl)))))
    | status => exact .inr (.inr (.inr (.inr (.inr (.inr (.inl rfl))))))
    | startOfPacket => exact .inr (.inr (.inr (.inr (.inr (.inr (.inr (.inl rfl)))))))
    | endOfPacket => exact .inr (.inr (.inr (.inr (.inr (.inr (.inr (.inr rfl)))))))

end Sys2Proof.Machine
end

section
/-!
The CRC-5 of a control symbol (R150 to R154): the fields and the symbol determine each other, and which flips of its bits
the CRC-5 detects.

One bit of the CRC-5 is linear over XOR, so the CRC-5 of a flipped word differs from that of the word by the syndrome of
the flip, the run of the same algorithm from the register 0. Whether a flip is detected is therefore a question about the
flip alone, not about the symbol flipped.
-/

namespace Sys2Proof.Machine

/-! ### The fields of a valid symbol -/

/-- An inbound symbol is valid when its CRC field is the CRC-5 of the bits covered (R151). -/
theorem crcGood_iff {c : Body} : crcGood c = true ↔ crc5 (crcCovered c) = (fieldsOf c).crc5 := beq_iff_eq

/-- The builder replaces the CRC field of a symbol and keeps the other five (R152). -/
theorem controlSymbolOf_fieldsOf (c : Body) :
    controlSymbolOf (fieldsOf c).stype0 (fieldsOf c).param0 (fieldsOf c).param1 (fieldsOf c).stype1 (fieldsOf c).cmd =
      bodyOf { fieldsOf c with crc5 := crc5 (crcCovered c) } := by
  have hcov := crcCovered_bodyOf_crc5 (fieldsOf c) 0#5
  rw [bodyOf_fieldsOf] at hcov
  rw [controlSymbolOf, hcov]

/-- Settles O3: the builder puts back the CRC field that a valid symbol has, and the field split undoes the builder. -/
theorem controlSymbolFieldsRoundTrip : Obligations.ControlSymbolFieldsRoundTrip := by
  refine ⟨fun c hgood => ?_, fun s0 p0 p1 s1 cmd => ⟨_, fieldsOf_bodyOf _, crcGood_controlSymbolOf ..⟩⟩
  rw [controlSymbolOf_fieldsOf, crcGood_iff.mp hgood]
  exact bodyOf_fieldsOf c

/-! ### The bitwise algorithm of R150 -/

/-- The bits from the top down, by their place in that order. -/
theorem bitsMsbFirst_eq_map {n : Nat} (v : BitVec n) :
    bitsMsbFirst v = (List.range n).map fun k => v.getLsbD (n - 1 - k) := by
  rw [bitsMsbFirst, List.range_eq_range', List.reverse_range', List.map_map, ← List.range_eq_range']
  simp only [Nat.zero_add, Function.comp_def]

/-- The register of the CRC-5 after the bits of `v`, from the register `r` (R150). -/
def crc5From {n : Nat} (r : Field5) (v : BitVec n) : Field5 := (bitsMsbFirst v).foldl crc5Bit r

theorem crc5_eq_crc5From (v : BitVec 19) : crc5 v = crc5From 0x1F#5 v := rfl

theorem crc5From_eq_foldl {n : Nat} (r : Field5) (v : BitVec n) :
    crc5From r v = (List.range n).foldl (fun r k => crc5Bit r (v.getLsbD (n - 1 - k))) r := by
  rw [crc5From, bitsMsbFirst_eq_map, List.foldl_map]

/-- The polynomial is added when the bit shifted out and the input bit differ (R150). -/
theorem crc5Bit_eq_ite (r : Field5) (b : Bool) :
    crc5Bit r b = if r.getLsbD 4 = b then r <<< 1 else (r <<< 1) ^^^ 0x15#5 := by
  unfold crc5Bit
  cases r.getLsbD 4 <;> cases b <;> rfl

/-! ### Linearity -/

/-- What one bit of the CRC-5 adds to the shifted register. -/
def crc5Feedback (t : Bool) : Field5 := if t then 0x15#5 else 0#5

theorem crc5Feedback_xor : ∀ t t' : Bool, crc5Feedback (t ^^ t') = crc5Feedback t ^^^ crc5Feedback t' := by decide

theorem crc5Bit_eq_xor_feedback (r : Field5) (b : Bool) :
    crc5Bit r b = (r <<< 1) ^^^ crc5Feedback (r.getLsbD 4 ^^ b) := by
  unfold crc5Bit crc5Feedback
  split
  · rfl
  · rw [BitVec.xor_zero]

/-- One bit of the CRC-5 is linear over XOR, in the register and the bit together. -/
theorem crc5Bit_xor (r r' : Field5) (b b' : Bool) :
    crc5Bit (r ^^^ r') (b ^^ b') = crc5Bit r b ^^^ crc5Bit r' b' := by
  have hout : ((r ^^^ r').getLsbD 4 ^^ (b ^^ b')) = ((r.getLsbD 4 ^^ b) ^^ (r'.getLsbD 4 ^^ b')) := by
    rw [BitVec.getLsbD_xor, Bool.xor_assoc, Bool.xor_left_comm _ b, ← Bool.xor_assoc]
  simp only [crc5Bit_eq_xor_feedback, hout, crc5Feedback_xor, BitVec.shiftLeft_xor_distrib]
  ac_rfl

/-- The register after a run is linear in the register before it and the word. -/
theorem crc5From_xor {n : Nat} (r r' : Field5) (v e : BitVec n) :
    crc5From (r ^^^ r') (v ^^^ e) = crc5From r v ^^^ crc5From r' e := by
  simp only [crc5From_eq_foldl, BitVec.getLsbD_xor]
  exact List.foldl_hom₂ _ (· ^^^ ·) _ _ _ r r' fun _ _ _ => (crc5Bit_xor ..).symm

/-! ### Syndromes (R154) -/

/-- The syndrome of a flip of the covered bits: what it adds to the CRC-5. -/
def crc5Syndrome (e : BitVec 19) : Field5 := crc5From 0#5 e

/-- A flip changes the CRC-5 of every word by its syndrome. -/
theorem crc5_xor (v e : BitVec 19) : crc5 (v ^^^ e) = crc5 v ^^^ crc5Syndrome e :=
  crc5From_xor 0x1F#5 0#5 v e

theorem crcCovered_xor (c e : Body) : crcCovered (c ^^^ e) = crcCovered c ^^^ crcCovered e :=
  BitVec.extractLsb'_xor

theorem fieldsOf_xor_crc5 (c e : Body) : (fieldsOf (c ^^^ e)).crc5 = (fieldsOf c).crc5 ^^^ (fieldsOf e).crc5 :=
  BitVec.extractLsb'_xor

/-- The difference the rule lists is the syndrome of the flip. -/
theorem crc5_flip_xor_crc5 (c e : Body) :
    crc5 (crcCovered (c ^^^ e)) ^^^ crc5 (crcCovered c) = crc5Syndrome (crcCovered e) := by
  rw [crcCovered_xor, crc5_xor, BitVec.xor_comm, ← BitVec.xor_assoc, BitVec.xor_self, BitVec.zero_xor]

/-- A flip of a valid symbol leaves it valid only when it flips the CRC field by its syndrome. -/
theorem crcGood_xor {c : Body} (hgood : crcGood c = true) (e : Body) :
    crcGood (c ^^^ e) = (crc5Syndrome (crcCovered e) == (fieldsOf e).crc5) := by
  rw [crcGood, crcCovered_xor, crc5_xor, fieldsOf_xor_crc5, crcGood_iff.mp hgood]
  exact beq_eq_beq.mpr (BitVec.xor_right_inj _)

/-- The syndromes of the flips of body bits 5 to 23 (R154). -/
theorem crc5Syndrome_bodyBit : ∀ j < 19, crc5Syndrome (crcCovered (1#24 <<< (j + 5))) =
    [0x15#5, 0x1F#5, 0x0B#5, 0x16#5, 0x19#5, 0x07#5, 0x0E#5, 0x1C#5, 0x0D#5, 0x1A#5, 0x01#5, 0x02#5, 0x04#5,
      0x08#5, 0x10#5, 0x15#5, 0x1F#5, 0x0B#5, 0x16#5].getD j 0#5 := by
  decide +kernel

/-- No flip of one bit flips the CRC field by its syndrome (R154). -/
theorem crc5Syndrome_ne_crcField_of_singleBit :
    ∀ j < 24, (crc5Syndrome (crcCovered (1#24 <<< j)) == (fieldsOf (1#24 <<< j)).crc5) = false := by
  decide +kernel

/-- Bits 5 and 20 have the same syndrome, so flipping both changes neither the CRC-5 nor the CRC field (R154). -/
theorem crc5Syndrome_bits5And20 :
    (crc5Syndrome (crcCovered 0x100020#24) == (fieldsOf 0x100020#24).crc5) = true := by
  decide +kernel

/-- Settles O4: the CRC-5 is linear, so a flip is detected or not by its syndrome, and the syndromes are computed. -/
theorem singleBitErrorsAreDetected : Obligations.SingleBitErrorsAreDetected := by
  refine ⟨?algorithm, ?zero, ?status, ?statusSymbol, ?singleBit, ?syndromes, ?doubleBit⟩
  case algorithm =>
    intro v
    simp only [crc5_eq_crc5From, crc5From_eq_foldl, crc5Bit_eq_ite]
  case zero => decide +kernel
  case status => decide +kernel
  case statusSymbol => decide +kernel
  case singleBit =>
    intro c j hgood hj
    rw [crcGood_xor hgood, crc5Syndrome_ne_crcField_of_singleBit j hj]
  case syndromes =>
    intro c j hj
    rw [crc5_flip_xor_crc5, crc5Syndrome_bodyBit j hj]
  case doubleBit =>
    intro c hgood
    rw [crcGood_xor hgood, crc5Syndrome_bits5And20]

end Sys2Proof.Machine
end

section
/-!
What the receiver does with one inbound symbol (R170 to R191, R194), and the transmitter's acknowledgement handlers it
calls (R235 to R237).

Every row that carries a symbol is the delivery of that symbol (`exec_eq_addSymbol`), so a row's effect does not depend on
the format it is listed by. A control symbol with a good CRC-5 is its stype0 half followed by its stype1 half
(`exec_of_stype0Leaves`); the stype0 half never faults on a window inside its queue (`stype0Leaves_exists`) and writes
nothing of the inbound queue (`ReceiverFrame`). Each statement then needs the equation of one half only.
-/

namespace Sys2Proof.Machine

/-! ### The delivery of a symbol -/

section delivery

variable {s u v : State} {f : ControlFields}

/-- The end of an operation that met no fault (R97). -/
theorem finish_ok (s : State) : finish (.ok s) = .next { s with response := ⟨0#32, .idle, []⟩ } := rfl

/-- A body's fields decide its halves (R85, R176). -/
theorem controlSymbol_bodyOf (f : ControlFields) :
    controlSymbol (bodyOf f) = controlSymbolWith f (stype0Code f) (stype1Code f) := by
  funext s
  rw [controlSymbol, fieldsOf_bodyOf]

/-- A row listed by its stype0 code delivers its symbol, if the row's half is that of the code. -/
theorem deliverByStype0_eq {half : State → Except Fault State} (h : half = stype0Code f) (s : State) :
    deliverByStype0 f half s = finish (addSymbol (.control (bodyOf f)) s) := by
  rw [deliverByStype0, h, ← controlSymbol_bodyOf]
  rfl

/-- A row listed by its stype1 code delivers its symbol, if the row's half is that of the code. -/
theorem deliverByStype1_eq {half : State → Except Fault State} (h : half = stype1Code f) (s : State) :
    deliverByStype1 f half s = finish (addSymbol (.control (bodyOf f)) s) := by
  rw [deliverByStype1, h, ← controlSymbol_bodyOf]
  rfl

/-- Every row that carries a symbol is the delivery of that symbol (R15, R170, R278). -/
theorem exec_eq_addSymbol {i : Instr} {sym : Symbol} (h : deliveredSymbol i = some sym) (s : State) :
    exec i s = finish (addSymbol sym s) := by
  cases i with
  | portAddSymbol | symControl | symData | symError => cases h; rfl
  | symIdle =>
    cases h
    show finish (.ok s) = finish (whenPortUp .ok s)
    rw [whenPortUp, ite_self]
  | packetAccepted | packetRetry | packetNotAccepted | status | linkResponse | stype0Reserved3 | stype0Reserved6
  | stype0Reserved7 => cases h; exact deliverByStype0_eq rfl s
  | startOfPacket | stomp | endOfPacket | restartFromRetry | multicastEvent | nop | linkRequestInputStatus
  | linkRequestCmd0 | linkRequestCmd1 | linkRequestCmd2 | linkRequestCmd3 | linkRequestCmd5 | linkRequestCmd6
  | linkRequestCmd7 | stype1Reserved6 => cases h; exact deliverByStype1_eq rfl s
  | _ => cases h

/-- An UNINITIALIZED receiver ignores every symbol (R171). -/
theorem addSymbol_down (sym : Symbol) (h : s.rx.state = .uninitialized) : addSymbol sym s = .ok s :=
  whenPortUp_down h

/-- An Idle symbol changes nothing (R172). -/
theorem addSymbol_idle (s : State) : addSymbol .idle s = .ok s := ite_self _

theorem addSymbol_error (h : s.rx.state ≠ .uninitialized) : addSymbol .error s = .ok (errorSymbol s) :=
  whenPortUp_up h

/-- A data symbol needs no gate: an UNINITIALIZED receiver drops it as every other does (R171, R174). -/
theorem addSymbol_data (w : Word) (s : State) : addSymbol (.data w) s = dataSymbol w s := by
  by_cases h : s.rx.state = .uninitialized
  · rw [addSymbol_down _ h, dataSymbol, if_pos (by simp [h])]
  · exact whenPortUp_up h

theorem addSymbol_control (c : Body) (h : s.rx.state ≠ .uninitialized) :
    addSymbol (.control c) s = controlSymbol c s := whenPortUp_up h

/-- A control symbol whose CRC-5 does not match (R175). -/
theorem controlSymbol_of_bad {c : Body} (h : crcGood c = false) : controlSymbol c s = .ok (badCrcSymbol s) := by
  rw [controlSymbol, controlSymbolWith, bodyOf_fieldsOf, h]
  rfl

/-- A symbol whose halves are processed goes on from what its stype0 half left (R176). -/
theorem exec_of_stype0Leaves {i : Instr} (hi : deliveredSymbol i = some (.control (bodyOf f))) (hh : Heard f s)
    (hu : Stype0Leaves f s u) : exec i s = runStype1 f u := by
  obtain ⟨hup, hgood⟩ := hh
  rw [exec_eq_addSymbol hi, addSymbol_control _ hup, controlSymbol_bodyOf, controlSymbolWith, if_pos hgood, goodSymbol,
    hu, runStype1]
  dsimp only
  cases stype1Code f u <;> rfl

/-- The end of a symbol whose stype1 half met no fault (R177, R278). -/
theorem runStype1_of_ok (hv : stype1Code f u = .ok v) : runStype1 f u = endSymbol f v := by
  rw [runStype1, hv]
  rfl

end delivery

/-! ### Parts of the invariant -/

/-- The window lies inside the occupied slots (R51.3). -/
theorem window_le_used_of_inv {s : State} (h : Inv s) : s.txq.windowSize ≤ queueUsed s.txq := by
  obtain ⟨-, -, htx, -⟩ := inv_iff.mp h
  obtain ⟨-, -, hw, -⟩ := htx.queue
  exact hw

theorem rxbuf_wf_of_inv {s : State} (h : Inv s) : Memory.wf s.rxbuf := by
  obtain ⟨-, hrx, -, -⟩ := inv_iff.mp h
  exact hrx.buffer.1

/-- A packet in progress has a free slot, the back slot, and every word of that slot has an address (R51.7, R61). -/
theorem backSlot_of_inv {s : State} (h : Inv s) (hr : s.rx.receiving = true) {k : Nat} (hk : k < s.cfg.slotWords) :
    s.rxq.available ≠ 0 ∧ slotBase s.cfg s.rxq.backIndex + k < slotLimit s.cfg s.rxq := by
  obtain ⟨-, hrx, -, -⟩ := inv_iff.mp h
  have hav : s.rxq.available ≠ 0 := (hrx.receiving hr).2.ne'
  exact ⟨hav, slot_in_limit s.cfg s.rxq (backIndex_lt hrx.queue hav) hk⟩

/-! ### The count of unsupported symbols (R177) -/

section unsupportedSymbols

variable {s : State} {f : ControlFields} {cfg : Config}

/-- The three kinds of unsupported symbols (R93). -/
theorem unsupported_iff : unsupported cfg f = true ↔
    (stype0Unsupported cfg f.stype0 = true ∧ f.stype1 ≠ stype1Sop) ∨ f.stype1 = stype1Reserved ∨
      (f.stype1 = stype1Lreq ∧ f.cmd ≠ cfg.lreqInputStatus) := by
  simp only [unsupported, Bool.or_eq_true, Bool.and_eq_true, bne_iff_ne, beq_iff_eq, or_assoc]

/-- The codes of R86 other than that of LINK_RESPONSE are supported whatever the parameters are (R93). -/
theorem stype0Unsupported_eq_false {code : Field3}
    (h : code = stype0Acc ∨ code = stype0Retry ∨ code = stype0Nacc ∨ code = stype0Status) :
    stype0Unsupported cfg code = false := by
  rcases h with rfl | rfl | rfl | rfl <;> rfl

theorem countUnsupported_of_unsupported (h : unsupported s.cfg f = true) :
    countUnsupported f s = inc .inboundErrorPacketUnsupported s := if_pos h

theorem countUnsupported_of_supported (h : ¬ unsupported s.cfg f = true) : countUnsupported f s = s := if_neg h

/-- An SOP is supported, whatever its stype0 is (R93). -/
theorem countUnsupported_sop (h : f.stype1 = stype1Sop) : countUnsupported f s = s := by
  refine countUnsupported_of_supported fun hun => ?_
  rcases unsupported_iff.mp hun with ⟨-, hne⟩ | hres | ⟨hlreq, -⟩
  · exact hne h
  · rw [h] at hres; exact absurd hres (by decide)
  · rw [h] at hlreq; exact absurd hlreq (by decide)

/-- A LINK_REQUEST with another cmd than `LREQ_INPUT_STATUS` is unsupported (R93). -/
theorem countUnsupported_linkRequest (h : f.stype1 = stype1Lreq) (hcmd : f.cmd ≠ s.cfg.lreqInputStatus) :
    countUnsupported f s = inc .inboundErrorPacketUnsupported s :=
  countUnsupported_of_unsupported (unsupported_iff.mpr (.inr (.inr ⟨h, hcmd⟩)))

end unsupportedSymbols

/-! ### The stype0 halves -/

section stype0Equations

variable {s u : State} {f : ControlFields}

/-- The transmitter states in which acknowledgements are acted on (R235 to R237). -/
theorem outputActive_iff :
    outputActive s = true ↔ s.tx.state = .linkInitialized ∨ s.tx.state = .outputRetryStopped := by
  simp [outputActive]

theorem outputActive_eq_false_iff :
    outputActive s = false ↔ s.tx.state ≠ .linkInitialized ∧ s.tx.state ≠ .outputRetryStopped := by
  simp [outputActive]

/-- Popping a window that is not empty (R130). -/
theorem popFront_of_window {q : Queue} (hw : 0 < q.windowSize) (hq : q.windowSize ≤ queueUsed q) :
    popFront q = .ok { q with
      frontIndex := (q.frontIndex + 1) % q.size, available := q.available + 1, windowSize := q.windowSize - 1 } := by
  rw [popFront, if_neg (by omega), if_pos hw]

theorem recordLatency_tx (lat : Word) (s : State) : (recordLatency lat s).tx = s.tx := by
  obtain ⟨c, hlat⟩ := recordLatency_eq lat s
  rw [hlat]

/-- An acknowledgement of a window inside its queue meets no fault (R131, R235). -/
theorem onAccepted_isOk (a : Field5) (hq : s.txq.windowSize ≤ queueUsed s.txq) : ∃ u, onAccepted a s = .ok u := by
  unfold onAccepted
  split
  · exact ⟨_, rfl⟩
  split
  · rename_i hc
    rw [popFront_of_window hc.2 hq]
    exact ⟨_, rfl⟩
  · exact ⟨_, rfl⟩

/-- Packets that a queue holds can be popped from it (R130, R131). -/
theorem popFrontMany_of_le {q : Queue} {d : Nat} (hd : d ≤ queueUsed q) : ∃ q', popFrontMany q d = .ok q' := by
  rcases Nat.eq_zero_or_pos d with h0 | h0
  · exact ⟨q, (popFrontMany_eq_ok ..).mpr (.inl ⟨h0, rfl⟩)⟩
  · exact ⟨_, (popFrontMany_eq_ok ..).mpr (.inr ⟨h0, hd, rfl⟩)⟩

/-- A retirement inside the window meets no fault (R131, R238). -/
theorem onLinkResponse_isOk (a : Field5) (hq : s.txq.windowSize ≤ queueUsed s.txq) :
    ∃ u, onLinkResponse a s = .ok u := by
  unfold onLinkResponse
  split
  · exact ⟨_, rfl⟩
  split
  · exact ⟨_, rfl⟩
  · rename_i hd
    obtain ⟨q, hpop⟩ := popFrontMany_of_le ((not_lt.mp hd).trans hq)
    rw [hpop]
    exact ⟨_, rfl⟩

/-- The stype0 half of a symbol meets no fault on a window inside its queue (R131). -/
theorem stype0Leaves_exists (f : ControlFields) (hq : s.txq.windowSize ≤ queueUsed s.txq) :
    ∃ u, Stype0Leaves f s u := by
  by_cases hsop : f.stype1 = stype1Sop
  · exact ⟨_, stype0Step_sop hsop⟩
  simp only [Stype0Leaves, stype0Step_half hsop, stype0Code]
  split
  · exact onAccepted_isOk _ hq
  split
  · exact ⟨_, rfl⟩
  split
  · exact ⟨_, rfl⟩
  split
  · exact ⟨_, rfl⟩
  · unfold linkResponseHalf
    split
    · exact onLinkResponse_isOk _ hq
    · exact ⟨_, rfl⟩

/-- The stype0 half of a symbol that is no SOP is the half of its code (R176). -/
theorem stype0Leaves_of_code (h1 : f.stype1 ≠ stype1Sop) (h : stype0Code f s = .ok u) : Stype0Leaves f s u :=
  (stype0Step_half h1).trans h

/-- What a stype0 half leaves of a state (R176): the parameters, the inbound queue and its buffer, and a receiver that is
up. -/
structure ReceiverFrame (s u : State) : Prop where
  cfg : u.cfg = s.cfg
  rxq : u.rxq = s.rxq
  rxbuf : u.rxbuf = s.rxbuf
  up : s.rx.state ≠ .uninitialized → u.rx.state ≠ .uninitialized

/-- Writing other registers leaves the receiver's. -/
theorem ReceiverFrame.of_rx_eq (hc : u.cfg = s.cfg) (hq : u.rxq = s.rxq) (hb : u.rxbuf = s.rxbuf) (hr : u.rx = s.rx) :
    ReceiverFrame s u := ⟨hc, hq, hb, fun h => by rwa [hr]⟩

theorem receiverFrame_onAccepted {a : Field5} (h : onAccepted a s = .ok u) : ReceiverFrame s u := by
  rcases onAccepted_eq_ok h with ⟨-, rfl⟩ | ⟨-, -, -, q, -, rfl⟩ | ⟨-, -, rfl⟩
  · exact .of_rx_eq rfl rfl rfl rfl
  · obtain ⟨c, hlat⟩ := recordLatency_eq (elapsedSince s (frameStamp s.tx a)) s
    rw [hlat]
    exact .of_rx_eq rfl rfl rfl rfl
  · exact .of_rx_eq rfl rfl rfl rfl

theorem receiverFrame_onRetry (a : Field5) (s : State) : ReceiverFrame s (onRetry a s) := by
  rcases onRetry_eq (s := s) a with ⟨-, e⟩ | ⟨-, -, e⟩ | ⟨-, -, e⟩ <;> rw [e] <;> exact .of_rx_eq rfl rfl rfl rfl

theorem receiverFrame_onNotAccepted (cause : Field5) (s : State) : ReceiverFrame s (onNotAccepted cause s) := by
  unfold onNotAccepted
  split <;> exact .of_rx_eq rfl rfl rfl rfl

/-- STATUS may bring the link up, and never takes the port down (R181). -/
theorem receiverFrame_onStatus (a : Field5) (s : State) : ReceiverFrame s (onStatus a s) := by
  unfold onStatus
  split
  · exact ⟨rfl, rfl, rfl, fun _ => by simp⟩
  · exact .of_rx_eq rfl rfl rfl rfl

theorem receiverFrame_linkResponseHalf {code : Field3} {a : Field5} (h : linkResponseHalf code a s = .ok u) :
    ReceiverFrame s u := by
  unfold linkResponseHalf at h
  split at h
  · rcases onLinkResponse_eq_ok h with ⟨-, rfl⟩ | ⟨-, -, -, q, -, rfl⟩ <;> exact .of_rx_eq rfl rfl rfl rfl
  · cases h; exact .of_rx_eq rfl rfl rfl rfl

/-- The acknowledgement handlers see a state with the new `tx_buffer_status`, which is no register of the receiver. -/
theorem ReceiverFrame.of_setBufferStatus {p1 : Field5} (h : ReceiverFrame (setBufferStatus p1 s) u) :
    ReceiverFrame s u := ⟨h.cfg, h.rxq, h.rxbuf, h.up⟩

/-- The stype0 half of a symbol writes nothing of the inbound queue (R176). -/
theorem receiverFrame_of_stype0Leaves (h : Stype0Leaves f s u) : ReceiverFrame s u := by
  by_cases hsop : f.stype1 = stype1Sop
  · rw [Stype0Leaves, stype0Step_sop hsop] at h
    cases h; exact .of_rx_eq rfl rfl rfl rfl
  rw [Stype0Leaves, stype0Step_half hsop, stype0Code] at h
  split at h
  · exact (receiverFrame_onAccepted h).of_setBufferStatus
  split at h
  · cases h; exact (receiverFrame_onRetry ..).of_setBufferStatus
  split at h
  · cases h; exact receiverFrame_onNotAccepted ..
  split at h
  · cases h; exact (receiverFrame_onStatus ..).of_setBufferStatus
  · exact receiverFrame_linkResponseHalf h

end stype0Equations

/-! ### The stype1 halves -/

section stype1Equations

variable {s u : State} {f : ControlFields}

/-- MULTICAST_EVENT and NOP have no effect of their own (R189, R190), and so has the reserved code (R191). -/
theorem stype1Code_of_noEffect (h : f.stype1 = stype1Mce ∨ f.stype1 = stype1Nop ∨ f.stype1 = stype1Reserved) :
    stype1Code f u = .ok u := by
  rcases h with h | h | h <;> rw [stype1Code, h] <;> rfl

/-- With MULTICAST_EVENT or NOP, a supported stype0 half is the whole effect of a symbol (R189, R190). -/
theorem runStype1_eventOrNop (h0 : stype0Unsupported u.cfg f.stype0 = false)
    (h1 : f.stype1 = stype1Mce ∨ f.stype1 = stype1Nop) :
    runStype1 f u = .next { u with response := ⟨0#32, .idle, []⟩ } := by
  have hsupported : ¬ unsupported u.cfg f = true := by
    rw [unsupported_iff, h0]
    rcases h1 with h1 | h1 <;> rw [h1] <;> simp [stype1Mce, stype1Nop, stype1Reserved, stype1Lreq]
  rw [runStype1_of_ok (stype1Code_of_noEffect (h1.imp_right .inl)), endSymbol, countUnsupported_of_supported hsupported]
  rfl

/-- A good symbol with a supported stype0 code: its stype1 half goes on from what the stype0 half left, and MULTICAST_EVENT
and NOP add nothing to it. -/
theorem exec_of_supportedStype0 {i : Instr} (hi : deliveredSymbol i = some (.control (bodyOf f))) (hh : Heard f s)
    (h0 : f.stype0 = stype0Acc ∨ f.stype0 = stype0Retry ∨ f.stype0 = stype0Nacc ∨ f.stype0 = stype0Status)
    (hu : Stype0Leaves f s u) :
    exec i s = runStype1 f u ∧
      (f.stype1 = stype1Mce ∨ f.stype1 = stype1Nop → exec i s = .next { u with response := ⟨0#32, .idle, []⟩ }) := by
  have hrun := exec_of_stype0Leaves hi hh hu
  exact ⟨hrun, fun h1 => hrun.trans (runStype1_eventOrNop (stype0Unsupported_eq_false h0) h1)⟩

/-- A packet in progress whose space was checked can be committed, and the length word alone is written (R134, R194). -/
theorem commitPacket_of_inv (h : Inv s) (hr : s.rx.receiving = true) :
    commitPacket s = .ok { inc .inboundComplete s with
      rxq := { s.rxq with backIndex := (s.rxq.backIndex + 1) % s.rxq.size, available := s.rxq.available - 1 }
      rxbuf := bufWrite s.rxbuf (slotBase s.cfg s.rxq.backIndex) (BitVec.ofNat 32 s.rx.counter)
      rx := { s.rx with ackid := s.rx.ackid + 1#5, receiving := false, counter := 0 } } := by
  obtain ⟨hav, hin⟩ := backSlot_of_inv h hr (k := 0) (Nat.succ_pos _)
  rw [commitPacket, (commitBack_eq_ok ..).mpr ⟨hav, hin, rfl, rfl⟩]
  rfl

/-- An END_OF_PACKET meets no fault (R186, R131). -/
theorem onEop_isOk (h : Inv s) : ∃ t, onEop s = .ok t := by
  unfold onEop
  split
  · exact ⟨_, rfl⟩
  split
  · exact ⟨_, rfl⟩
  split
  · exact ⟨_, rfl⟩
  · rename_i hr _
    exact ⟨_, commitPacket_of_inv h (by simpa using (not_or.mp hr).1)⟩

/-- The eight LINK_REQUEST rows, each with the symbol of its cmd (R88). -/
theorem deliveredSymbol_linkRequestRow {s0 : Field3} {p0 p1 : Field5} {cmd : Field3} {crc : Field5} {i : Instr}
    (h : (cmd, i) ∈ linkRequestRows s0 p0 p1 crc) :
    deliveredSymbol i = some (.control (bodyOf ⟨s0, p0, p1, 4#3, cmd, crc⟩)) := by
  simp only [linkRequestRows, List.mem_cons, List.not_mem_nil, or_false, Prod.mk.injEq] at h
  rcases h with ⟨rfl, rfl⟩ | ⟨rfl, rfl⟩ | ⟨rfl, rfl⟩ | ⟨rfl, rfl⟩ | ⟨rfl, rfl⟩ | ⟨rfl, rfl⟩ | ⟨rfl, rfl⟩ | ⟨rfl, rfl⟩ <;>
    rfl

/-- The port_status of a receiver past PORT_INITIALIZED (R92). -/
theorem portStatusOf_eq (cfg : Config) {r : RxState} (h0 : r ≠ .uninitialized) (h1 : r ≠ .portInitialized) :
    portStatusOf cfg r =
      if r = .linkInitialized then cfg.psOk
      else if r = .inputRetryStopped then cfg.psRetryStopped
      else cfg.psErrorStopped := by
  cases r with
  | uninitialized => exact absurd rfl h0
  | portInitialized => exact absurd rfl h1
  | linkInitialized => rfl
  | inputRetryStopped => rfl
  | inputErrorStopped => rfl

end stype1Equations

/-! ### Idle, Error, Data and bad control symbols -/

/-- Settles O35: the gate of R171 comes before every symbol, and Idle has no effect behind it. -/
theorem ignoredSymbolsChangeNothing : Obligations.IgnoredSymbolsChangeNothing := by
  refine ⟨fun i sym s hi hdown => ?_, fun i hi s => ?_⟩
  · rw [exec_eq_addSymbol hi, addSymbol_down sym hdown, finish_ok]
  · have hsym : deliveredSymbol i = some .idle := by
      simp only [List.mem_cons, List.not_mem_nil, or_false] at hi
      rcases hi with rfl | rfl <;> rfl
    rw [exec_eq_addSymbol hsym, addSymbol_idle, finish_ok]

/-- The receiver states in which a bad symbol is raised (R173, R175). -/
theorem inputErrorArmed_iff {s : State} :
    inputErrorArmed s = true ↔ s.rx.state = .linkInitialized ∨ s.rx.state = .inputRetryStopped := by
  simp [inputErrorArmed]

/-- The end of an operation that does `a` where an input error is raised, and `b` elsewhere. -/
theorem finish_ite_armed (s a b : State) :
    finish (.ok (if inputErrorArmed s then a else b)) = .next
      (if s.rx.state = .linkInitialized ∨ s.rx.state = .inputRetryStopped then
        { a with response := ⟨0#32, .idle, []⟩ }
      else { b with response := ⟨0#32, .idle, []⟩ }) := by
  by_cases h : inputErrorArmed s = true
  · rw [if_pos h, if_pos (inputErrorArmed_iff.mp h), finish_ok]
  · rw [if_neg h, if_neg (mt inputErrorArmed_iff.mpr h), finish_ok]

/-- Settles O36: the receiver states of R173 are those in which a bad symbol is raised. -/
theorem errorSymbolIsCountedAndRaised : Obligations.ErrorSymbolIsCountedAndRaised := by
  intro i hi s hup
  have hsym : deliveredSymbol i = some .error := by
    simp only [List.mem_cons, List.not_mem_nil, or_false] at hi
    rcases hi with rfl | rfl <;> rfl
  rw [exec_eq_addSymbol hsym, addSymbol_error hup]
  exact finish_ite_armed ..

/-- Settles O38: the CRC-5 is checked before any field is used, whichever row the symbol is read by. -/
theorem badControlCrcIsCountedAndRaised : Obligations.BadControlCrcIsCountedAndRaised := by
  intro i c s hi hcrc hup
  have hbad : crcGood c = false := Bool.eq_false_iff.mpr (mt crcGood_iff.mp hcrc)
  rw [exec_eq_addSymbol hi, addSymbol_control c hup, controlSymbol_of_bad hbad]
  exact finish_ite_armed ..

/-- A data word of a packet in progress has its place in the back slot (R135, R174). -/
theorem stageWord_of_inv {s : State} (h : Inv s) (hr : s.rx.receiving = true) (hc : s.rx.counter ≠ s.cfg.m)
    (w : Word) :
    stageWord s.cfg s.rxq s.rxbuf s.rx.counter w =
      .ok (bufWrite s.rxbuf (stageAddress s.cfg s.rxq s.rx.counter) w) := by
  obtain ⟨-, hrx, -, -⟩ := inv_iff.mp h
  have hlt : 1 + s.rx.counter < s.cfg.slotWords := by
    have := lt_of_le_of_ne hrx.counter_le hc
    simp only [Config.slotWords]; omega
  obtain ⟨hav, hin⟩ := backSlot_of_inv h hr hlt
  rw [← Nat.add_assoc] at hin
  exact (stageWord_eq_ok ..).mpr ⟨hav, hin, rfl⟩

/-- Settles O37: the three cases of R174; a packet in progress has a free slot, so its word has a place. -/
theorem dataSymbolIsStoredOrRaised : Obligations.DataSymbolIsStoredOrRaised := by
  intro w s i hi
  have hsym : deliveredSymbol i = some (.data w) := by
    simp only [List.mem_cons, List.not_mem_nil, or_false] at hi
    rcases hi with rfl | rfl <;> rfl
  rw [exec_eq_addSymbol hsym, addSymbol_data, dataSymbol]
  refine ⟨fun hs => ?dropped, fun hs hc => ?raised, fun hs hr hc hinv => ?stored⟩
  case dropped => rw [if_pos hs, finish_ok]
  case raised =>
    rw [if_neg (not_not.mpr hs), if_pos hc]
    exact finish_ok _
  case stored =>
    have hread := bufRead_bufWrite s.rxbuf (rxbuf_wf_of_inv hinv) (stageAddress s.cfg s.rxq s.rx.counter)
    refine ⟨bufWrite s.rxbuf (stageAddress s.cfg s.rxq s.rx.counter) w, ?_, ?_, fun a ha => ?_⟩
    · rw [if_neg (not_not.mpr hs), if_neg (by simp [hr, hc]), stageWord_of_inv hinv hr hc]
      exact finish_ok _
    · exact (hread _ w).trans (if_pos rfl)
    · exact (hread a w).trans (if_neg ha)

/-! ### Acknowledgements and STATUS -/

/-- Settles O40: the three cases of R235, with the pop of a window inside its queue. -/
theorem packetAcceptedRetiresTheHead : Obligations.PacketAcceptedRetiresTheHead := by
  intro p0 p1 s1 cmd crc s hh hs1 hq b lat m u
  refine exec_of_supportedStype0 rfl hh (.inl rfl) (stype0Leaves_of_code hs1 ?_)
  show onAccepted p0 b = .ok u
  by_cases hact : outputActive b = false
  · rw [onAccepted, if_pos hact]
    exact congrArg Except.ok (if_pos (outputActive_eq_false_iff.mp hact)).symm
  have hstate := mt (outputActive_eq_false_iff (s := b)).mpr hact
  by_cases hhead : p0 = b.tx.ackid ∧ 0 < b.txq.windowSize
  · have hm : m.tx = b.tx := recordLatency_tx lat b
    have hu : u = _ := (if_neg hstate).trans (if_pos hhead)
    rw [onAccepted, if_neg hact, if_pos hhead, popFront_of_window hhead.2 hq, hu]
    show Except.ok (inc .outboundComplete { m with txq := _, tx := { m.tx with ackid := m.tx.ackid + 1#5 } }) = _
    rw [hm]
  · rw [onAccepted, if_neg hact, if_neg hhead]
    exact congrArg Except.ok ((if_neg hstate).trans (if_neg hhead)).symm

/-- Settles O41: the three cases of R236. -/
theorem packetRetryRewindsTheWindow : Obligations.PacketRetryRewindsTheWindow := by
  intro p0 p1 s1 cmd crc s hh hs1 b u
  refine exec_of_supportedStype0 rfl hh (.inr (.inl rfl)) (stype0Leaves_of_code hs1 ?_)
  have hretry : onRetry p0 b = u := if_congr outputActive_eq_false_iff rfl rfl
  exact congrArg Except.ok hretry

/-- Settles O42: R237 by the counter of the cause. -/
theorem packetNotAcceptedIsCountedByCause : Obligations.PacketNotAcceptedIsCountedByCause := by
  intro p0 p1 s1 cmd crc s hh hs1 c u
  refine exec_of_supportedStype0 rfl hh (.inr (.inr (.inl rfl))) (stype0Leaves_of_code hs1 ?_)
  have hnotAccepted : onNotAccepted p1 s = u := if_congr outputActive_iff rfl rfl
  exact congrArg Except.ok hnotAccepted

/-- Settles O43: the three rows deliver one symbol, whose stype0 half is R181 as it stands. -/
theorem statusUpdatesAndInitializes : Obligations.StatusUpdatesAndInitializes := by
  intro p0 p1 s1 cmd crc s hh hs1 b u i hi
  have hsym : deliveredSymbol i = some (.control (bodyOf ⟨4#3, p0, p1, s1, cmd, crc⟩)) := by
    simp only [List.mem_cons, List.not_mem_nil, or_false] at hi
    rcases hi with rfl | rfl | rfl <;> rfl
  exact exec_of_supportedStype0 hsym hh (.inr (.inr (.inr rfl))) (stype0Leaves_of_code hs1 rfl)

/-! ### The stype1 rows -/

/-- A row whose stype1 half takes what the stype0 half leaves, `u`, to `half u`. -/
theorem exec_of_stype1Half {f : ControlFields} {i : Instr} {s : State} (half : State → State)
    (hi : deliveredSymbol i = some (.control (bodyOf f))) (hq : s.txq.windowSize ≤ queueUsed s.txq) (hh : Heard f s)
    (hhalf : ∀ u, stype1Code f u = .ok (half u)) :
    ∃ u, Stype0Leaves f s u ∧ exec i s = endSymbol f (half u) := by
  obtain ⟨u, hu⟩ := stype0Leaves_exists f hq
  exact ⟨u, hu, (exec_of_stype0Leaves hi hh hu).trans (runStype1_of_ok (hhalf u))⟩

/-- Settles O50: the three codes have no half of their own, and R177 counts the reserved one. -/
theorem eventNopAndReservedStype1AddNothing : Obligations.EventNopAndReservedStype1AddNothing := by
  intro s0 p0 p1 cmd crc s hq
  refine ⟨fun hh => ?event, fun hh => ?nop, fun hh => ?reserved⟩
  case event => exact exec_of_stype1Half id rfl hq hh fun _ => stype1Code_of_noEffect (.inl rfl)
  case nop => exact exec_of_stype1Half id rfl hq hh fun _ => stype1Code_of_noEffect (.inr (.inl rfl))
  case reserved =>
    obtain ⟨u, hu, hexec⟩ := exec_of_stype1Half (i := .stype1Reserved6 s0 p0 p1 cmd crc) id rfl hq hh
      fun _ => stype1Code_of_noEffect (.inr (.inr rfl))
    rw [endSymbol, countUnsupported_of_unsupported (unsupported_iff.mpr (.inr (.inl rfl)))] at hexec
    exact ⟨u, hu, hexec⟩

/-- Settles O47: `on_stomp()` and `on_restart_from_retry()` are the cases of R185 and R187 as they stand. -/
theorem stompDiscardsAndRestartResumes : Obligations.StompDiscardsAndRestartResumes := by
  intro s0 p0 p1 cmd crc s hq
  exact ⟨fun hh => exec_of_stype1Half onStomp rfl hq hh fun _ => rfl,
    fun hh => exec_of_stype1Half onRestartFromRetry rfl hq hh fun _ => rfl⟩

/-- Settles O46: an SOP's stype0 half is its buf_status, and its stype1 half is R184. -/
theorem startOfPacketChecksAckidThenSpace : Obligations.StartOfPacketChecksAckidThenSpace := by
  intro s0 p0 p1 cmd crc s hh b started
  have hexec : ∀ t, onSop p0 b = .ok t →
      exec (.startOfPacket s0 p0 p1 cmd crc) s = .next { t with response := ⟨0#32, .idle, []⟩ } := by
    intro t ht
    have hleaves : Stype0Leaves ⟨s0, p0, p1, 0#3, cmd, crc⟩ s b := stype0Step_sop rfl
    have hstype1 : stype1Code ⟨s0, p0, p1, 0#3, cmd, crc⟩ b = .ok t := ht
    rw [exec_of_stype0Leaves rfl hh hleaves, runStype1_of_ok hstype1, endSymbol, countUnsupported_sop rfl]
    rfl
  refine ⟨fun hs => hexec _ (if_pos hs), fun hs hr => hexec _ ?idle, fun hs hr hinv => ?receiving⟩
  case idle => rw [onSop, if_neg (not_not.mpr hs), if_neg (by simp [b, hr])]; rfl
  case receiving =>
    obtain ⟨v, hv⟩ := onEop_isOk (s := b) (inv_setBufferStatus p1 hinv)
    refine ⟨v, hv, hexec _ ?_⟩
    rw [onSop, if_neg (not_not.mpr hs), if_pos hr, hv]
    by_cases hvs : v.rx.state = .linkInitialized
    · rw [if_pos hvs]; exact if_neg (not_not.mpr hvs)
    · rw [if_neg hvs]; exact if_pos hvs

/-- Settles O48: the cases of R186; what the stype0 half leaves still has the invariant, so the packet has its slot. -/
theorem endOfPacketCommitsOrRaises : Obligations.EndOfPacketCommitsOrRaises := by
  intro s0 p0 p1 cmd crc s hinv hh
  obtain ⟨u, hu⟩ := stype0Leaves_exists ⟨s0, p0, p1, 2#3, cmd, crc⟩ (window_le_used_of_inv hinv)
  have hinvu : Inv u := keepsInv_stype0Step _ (keepsInv_stype0Code _) hinv hu
  obtain ⟨hcfg, hrxq, hrxbuf, -⟩ := receiverFrame_of_stype0Leaves hu
  have hexec : ∀ v, onEop u = .ok v →
      exec (.endOfPacket s0 p0 p1 cmd crc) s = endSymbol ⟨s0, p0, p1, 2#3, cmd, crc⟩ v :=
    fun v hv => (exec_of_stype0Leaves rfl hh hu).trans (runStype1_of_ok hv)
  refine ⟨u, hu, ?_⟩
  split
  next hs => exact hexec _ (if_pos hs)
  next hs =>
  split
  next hr => exact hexec _ (by rw [onEop, if_neg hs, if_pos hr]; rfl)
  next hr =>
  split
  next hc => exact hexec _ (by rw [onEop, if_neg hs, if_neg hr, if_pos hc]; rfl)
  next hc =>
    have hread := bufRead_bufWrite u.rxbuf (rxbuf_wf_of_inv hinvu) (slotBase u.cfg u.rxq.backIndex)
    rw [← hcfg, ← hrxq, ← hrxbuf]
    refine ⟨bufWrite u.rxbuf (slotBase u.cfg u.rxq.backIndex) (BitVec.ofNat 32 u.rx.counter), hexec _ ?_, ?_,
      fun a ha => ?_⟩
    · rw [onEop, if_neg hs, if_neg hr, if_neg hc, commitPacket_of_inv hinvu (by simpa using (not_or.mp hr).1)]
    · exact (hread _ _).trans (if_pos rfl)
    · exact (hread a _).trans (if_neg ha)

/-- Settles O49: every cmd but `LREQ_INPUT_STATUS` is unsupported; that one is R188, in a receiver that the stype0 half
leaves up. -/
theorem linkRequestIsAnsweredOrUnsupported : Obligations.LinkRequestIsAnsweredOrUnsupported := by
  intro s0 p0 p1 cmd crc s i hi hq hh
  obtain ⟨u, hu, hexec⟩ :=
    exec_of_stype1Half (linkRequestHalf cmd) (deliveredSymbol_linkRequestRow hi) hq hh fun _ => rfl
  obtain ⟨hcfg, -, -, hkeepsUp⟩ := receiverFrame_of_stype0Leaves hu
  have hup : u.rx.state ≠ .uninitialized := hkeepsUp hh.1
  refine ⟨u, hu, ?_⟩
  rw [← hcfg, hexec]
  split
  next hcmd =>
    rw [linkRequestHalf, if_neg hcmd, endSymbol, countUnsupported_linkRequest rfl hcmd]
    rfl
  next hcmd =>
  rw [linkRequestHalf, if_pos (not_not.mp hcmd), onLinkRequest]
  split
  next hport => rw [if_pos (.inr hport)]
  next hport =>
    rw [if_neg (not_or.mpr ⟨hup, hport⟩), portStatusOf_eq u.cfg hup hport]
    rfl

end Sys2Proof.Machine
end

section
/-!
What the transmitter emits and what it writes (R220 to R234).

The priorities of R220 are read once: without a mailbox request and without a pending acknowledgement, the transmitter's
state leaves the few cases of one of the equations `getSymbol_of_…` below, and each statement is a branch of one of them. In BODY the window's packet stands in an occupied slot, so its length word and its words can be read
(`windowPacket_of_body`).
-/

namespace Sys2Proof.Machine

variable {s : State}

/-! ### The cases of R220, by the state of the transmitter -/

/-- PORT_GET_SYMBOL returns the symbol chosen, and nothing else (R279). -/
theorem exec_portGetSymbol_of_ok {r : State × Symbol} (h : getSymbol s = .ok r) :
    exec .portGetSymbol s = .next { r.1 with response := ⟨0#32, r.2, []⟩ } :=
  execPortGetSymbol_eq_next.mpr ⟨r.1, r.2, h, rfl⟩

theorem ackPending_iff : ackPending s = true ↔ s.rx.ackidAcked ≠ s.rx.ackid := bne_iff_ne

theorem ackPending_eq_false_iff : ackPending s = false ↔ s.rx.ackidAcked = s.rx.ackid := bne_eq_false_iff_eq

/-- The timeout condition of R239, with `el` written out. -/
theorem timedOut_iff : timedOut s = true ↔
    s.port.timeout.toNat < (s.port.time - s.tx.frameTimeout.get s.tx.ackid.toFin).toNat := decide_eq_true_iff

/-- The condition of R240 under which the next packet starts. -/
theorem canStart_iff : canStart s = true ↔
    0 < queueUsed s.txq - s.txq.windowSize ∧ s.txq.windowSize < min s.tx.bufferStatus.toNat 31 := by
  rw [canStart, Bool.and_eq_true, decide_eq_true_iff, decide_eq_true_iff]
  rfl

/-- An UNINITIALIZED transmitter emits Idle (R222). -/
theorem getSymbol_of_uninitialized (hs : s.tx.state = .uninitialized) : getSymbol s = .ok (s, .idle) := if_pos hs

/-- A waiting request comes before everything else (R220, R223). -/
theorem getSymbol_of_request (hup : s.tx.state ≠ .uninitialized) (hm : s.tx.mailbox ≠ .noRequest) :
    getSymbol s = .ok (mailboxSymbol s) := by
  rw [getSymbol, if_neg hup, if_pos hm]

/-- A pending acknowledgement comes next (R220, R224). -/
theorem getSymbol_of_ackPending (hup : s.tx.state ≠ .uninitialized) (hm : s.tx.mailbox = .noRequest)
    (ha : s.rx.ackidAcked ≠ s.rx.ackid) : getSymbol s = .ok (ackSymbol s) := by
  rw [getSymbol, if_neg hup, if_neg (not_not.mpr hm), if_pos (ackPending_iff.mpr ha)]

/-- What is left when nothing else is to be emitted: the buffer-status update, or Idle (R233, R234). -/
def bufstatOrIdle (s : State) : State × Symbol :=
  if bufStatus s ≠ s.tx.bufstatSent then bufstatSymbol s else (s, .idle)

/-- In the two states that advertise their free slots, the last two cases of R220 are one choice (R233, R234). -/
theorem bufstatOrIdle_of_advertising (hs : s.tx.state = .linkInitialized ∨ s.tx.state = .outputErrorStopped) :
    (if bufstatDue s then Except.ok (bufstatSymbol s) else .ok (s, .idle)) =
      (.ok (bufstatOrIdle s) : Except Fault (State × Symbol)) := by
  have hdue : bufstatDue s = true ↔ bufStatus s ≠ s.tx.bufstatSent := by
    rcases hs with hs | hs <;> simp [bufstatDue, hs]
  rw [bufstatOrIdle, apply_ite Except.ok]
  exact if_congr hdue rfl rfl

section unpreempted

variable (hm : s.tx.mailbox = .noRequest) (ha : s.rx.ackidAcked = s.rx.ackid)

include hm ha

/-- LINK_INITIALIZED: the timeout of the window's head, then the frame, then the rest (R220). -/
theorem getSymbol_of_linkInitialized (hs : s.tx.state = .linkInitialized) : getSymbol s =
    if 0 < s.txq.windowSize ∧ timedOut s = true then .ok (timeoutLinkRequest s)
    else if s.tx.frameState = .body then dataOrEopSymbol s
    else if canStart s = true then .ok (sopSymbol s)
    else .ok (bufstatOrIdle s) := by
  cases hf : s.tx.frameState <;>
    simp [getSymbol, hm, ackPending_eq_false_iff.mpr ha, hs, hf, ← bufstatOrIdle_of_advertising (.inl hs)]

/-- OUTPUT_ERROR_STOPPED: the LINK_REQUEST that is pending or due again, then the rest (R220). -/
theorem getSymbol_of_outputErrorStopped (hs : s.tx.state = .outputErrorStopped) : getSymbol s =
    if s.tx.lrPending = true then .ok (errorLinkRequest s)
    else if timedOut s = true then .ok (repeatLinkRequest s)
    else .ok (bufstatOrIdle s) := by
  cases hl : s.tx.lrPending <;>
    simp [getSymbol, hm, ackPending_eq_false_iff.mpr ha, hs, hl, ← bufstatOrIdle_of_advertising (.inr hs)]

/-- OUTPUT_RETRY_STOPPED: the restart alone (R220, R228). -/
theorem getSymbol_of_outputRetryStopped (hs : s.tx.state = .outputRetryStopped) :
    getSymbol s = .ok (restartSymbol s) := by
  simp [getSymbol, hm, ackPending_eq_false_iff.mpr ha, hs]

/-- PORT_INITIALIZED: the STATUS alone (R220, R229). -/
theorem getSymbol_of_portInitialized (hs : s.tx.state = .portInitialized) :
    getSymbol s = .ok (statusSymbol s) := by
  simp [getSymbol, hm, ackPending_eq_false_iff.mpr ha, hs]

end unpreempted

/-- The window's head has not timed out: no LINK_REQUEST comes before the frame (R225, R239). -/
theorem not_headTimeout (h : s.txq.windowSize = 0 ∨ timedOut s = false) :
    ¬ (0 < s.txq.windowSize ∧ timedOut s = true) := by
  rintro ⟨hw, ht⟩
  rcases h with h | h
  · omega
  · simp [ht] at h

/-! ### The packet of a frame -/

/-- During a frame the window's slot is an occupied one, and its packet is not yet sent (R51.8, R127). -/
theorem windowSlot_of_body (h : Inv s) (hf : s.tx.frameState = .body) :
    windowAvailable s.txq ≠ 0 ∧ s.txq.windowIndex < s.txq.size ∧ SlotHolds s.cfg s.txbuf s.txq.windowIndex := by
  obtain ⟨-, -, htx, -⟩ := inv_iff.mp h
  obtain ⟨-, hlt, -⟩ := htx.body hf
  obtain ⟨-, -, -, hi, -⟩ := htx.queue
  have hpos : 0 < s.txq.size := size_pos_of_used (by omega)
  obtain ⟨-, -, hwi⟩ := hi hpos
  refine ⟨by unfold windowAvailable; omega, ?_, ?_⟩
  · rw [hwi]; exact Nat.mod_lt _ hpos
  · rw [hwi]; exact htx.buffer.2 _ hlt

/-- During a frame the window's packet can be read: the length word of its slot gives its length, and its words stand
behind that word in order (R61, R127). -/
theorem windowPacket_of_body (h : Inv s) (hf : s.tx.frameState = .body) :
    ∃ pkt len, windowPacket s.cfg s.txq s.txbuf = .ok pkt ∧
      bufRead s.txbuf (slotBase s.cfg s.txq.windowIndex) = some len ∧ pkt.length = len.toNat ∧
      ∀ k < pkt.length, bufRead s.txbuf (slotBase s.cfg s.txq.windowIndex + 1 + k) = pkt[k]? := by
  obtain ⟨hav, hidx, hslot⟩ := windowSlot_of_body h hf
  obtain ⟨pkt, hpkt, -⟩ := slotPacket_isOk hidx hslot
  obtain ⟨⟨-, len, hlen, hlength⟩, hwords⟩ := (slotPacket_eq_ok ..).mp hpkt
  exact ⟨pkt, len, (if_neg hav).trans hpkt, hlen, hlength, fun k hk => (hwords k hk).2⟩

/-- The next word of the window's packet, as long as there is one (R231). -/
theorem dataOrEopSymbol_of_word {pkt : Packet} {x : Word} (hp : windowPacket s.cfg s.txq s.txbuf = .ok pkt)
    (hx : pkt[s.tx.counter]? = some x) :
    dataOrEopSymbol s = .ok ({ s with tx := { s.tx with counter := s.tx.counter + 1 } }, .data x) := by
  simp only [dataOrEopSymbol, hp, hx]

/-- Behind its last word, the end of the frame (R231, R232). -/
theorem dataOrEopSymbol_of_end {pkt : Packet} (hp : windowPacket s.cfg s.txq s.txbuf = .ok pkt)
    (hx : pkt[s.tx.counter]? = none) : dataOrEopSymbol s = eopSymbol s := by
  simp only [dataOrEopSymbol, hp, hx]

/-- The end of a frame whose packet is not yet in the window stamps it and moves the window on (R128, R232). -/
theorem eopSymbol_of_window (h : windowAvailable s.txq ≠ 0) :
    eopSymbol s = .ok (emitSt s.rx.ackid stype1Eop 0#3
      { s with
        txq := { s.txq with
          windowIndex := (s.txq.windowIndex + 1) % s.txq.size, windowSize := s.txq.windowSize + 1 }
        tx := { s.tx with
          frameTimeout := s.tx.frameTimeout.set s.tx.ackidWindow.toFin s.port.time
          ackidWindow := s.tx.ackidWindow + 1#5
          frameState := .start, counter := 0 } }) := by
  rw [eopSymbol, (windowAdvance_eq_ok ..).mpr ⟨h, rfl⟩]
  rfl

/-! ### The statements -/

/-- Settles O55: a frame's packet is its slot's words in order, and its window can move on behind the last. -/
theorem frameBodyEmitsWordsThenEnd : Obligations.FrameBodyEmitsWordsThenEnd := by
  intro s hinv hm ha hf hto base bs
  obtain ⟨-, -, htx, -⟩ := inv_iff.mp hinv
  obtain ⟨hs, -, -⟩ := htx.body hf
  have hget : getSymbol s = dataOrEopSymbol s := by
    rw [getSymbol_of_linkInitialized hm ha hs, if_neg (not_headTimeout hto), if_pos hf]
  obtain ⟨pkt, len, hpkt, hlen, hlength, hwords⟩ := windowPacket_of_body hinv hf
  refine ⟨len, hlen, ?_⟩
  split
  next hlt =>
    rw [← hlength] at hlt
    have hx : pkt[s.tx.counter]? = some pkt[s.tx.counter] := List.getElem?_eq_getElem hlt
    exact ⟨_, (hwords _ hlt).trans hx, exec_portGetSymbol_of_ok (hget.trans (dataOrEopSymbol_of_word hpkt hx))⟩
  next hge =>
    have hx : pkt[s.tx.counter]? = none := List.getElem?_eq_none (by omega)
    obtain ⟨hav, -, -⟩ := windowSlot_of_body hinv hf
    exact exec_portGetSymbol_of_ok (hget.trans ((dataOrEopSymbol_of_end hpkt hx).trans (eopSymbol_of_window hav)))

/-- Settles O51: the two highest priorities of R220; a mailbox request decides the symbol by its kind. -/
theorem mailboxThenAcknowledgement : Obligations.MailboxThenAcknowledgement := by
  intro s hup bs
  have hrequest : ∀ {r}, s.tx.mailbox ≠ .noRequest → mailboxSymbol s = r →
      exec .portGetSymbol s = .next { r.1 with response := ⟨0#32, r.2, []⟩ } := by
    rintro _ hm rfl
    exact exec_portGetSymbol_of_ok (getSymbol_of_request hup hm)
  refine ⟨fun hm => ?retry, fun hm => ?notAccepted, fun hm => ?linkResponse, fun hm ha => ?accepted⟩
  case retry => exact hrequest (by simp [hm]) (by rw [mailboxSymbol, hm])
  case notAccepted => exact hrequest (by simp [hm]) (by rw [mailboxSymbol, hm])
  case linkResponse => exact hrequest (by simp [hm]) (by rw [mailboxSymbol, hm])
  case accepted => exact exec_portGetSymbol_of_ok (getSymbol_of_ackPending hup hm ha)

/-- Settles O52: in LINK_INITIALIZED the timeout, in OUTPUT_ERROR_STOPPED the pending LINK_REQUEST or its repeat. -/
theorem linkRequestOnTimeoutRepeatAndError : Obligations.LinkRequestOnTimeoutRepeatAndError := by
  intro s hm ha bs fires stamped resp
  refine ⟨fun hs hw ht => ?timeout, fun hs hl ht => ?repeated, fun hs hl => ?error⟩
  case timeout =>
    have hget : getSymbol s = .ok (timeoutLinkRequest s) := by
      rw [getSymbol_of_linkInitialized hm ha hs, if_pos ⟨hw, timedOut_iff.mpr ht⟩]
    exact exec_portGetSymbol_of_ok hget
  case repeated =>
    have hget : getSymbol s = .ok (repeatLinkRequest s) := by
      rw [getSymbol_of_outputErrorStopped hm ha hs, if_neg (by simp [hl]), if_pos (timedOut_iff.mpr ht)]
    exact exec_portGetSymbol_of_ok hget
  case error =>
    have hget : getSymbol s = .ok (errorLinkRequest s) := by
      rw [getSymbol_of_outputErrorStopped hm ha hs, if_pos hl]
    exact exec_portGetSymbol_of_ok hget

/-- Settles O53: OUTPUT_RETRY_STOPPED and PORT_INITIALIZED have one case each. -/
theorem restartAndInitialStatus : Obligations.RestartAndInitialStatus := by
  intro s hm ha bs n
  refine ⟨fun hs => exec_portGetSymbol_of_ok (getSymbol_of_outputRetryStopped hm ha hs), fun hs => ?status⟩
  case status =>
    rw [exec_portGetSymbol_of_ok (getSymbol_of_portInitialized hm ha hs), ← hs]
    rfl

/-- Settles O54: a frame starts behind the timeout of the window's head, if R240 allows it. -/
theorem startOfPacketIsEmittedInTheWindow : Obligations.StartOfPacketIsEmittedInTheWindow := by
  intro s hm ha hs hf hto hqueued hwindow
  have hget : getSymbol s = .ok (sopSymbol s) := by
    rw [getSymbol_of_linkInitialized hm ha hs, if_neg (not_headTimeout hto), if_neg (by simp [hf]),
      if_pos (canStart_iff.mpr ⟨hqueued, hwindow⟩)]
  exact exec_portGetSymbol_of_ok hget

/-- Settles O56: with every earlier case shut out, the update and Idle are what is left. -/
theorem bufferStatusUpdateOrIdle : Obligations.BufferStatusUpdateOrIdle := by
  refine ⟨fun s hs => exec_portGetSymbol_of_ok (getSymbol_of_uninitialized hs), ?_⟩
  intro s hm ha bs fires hcases
  have hget : getSymbol s = .ok (bufstatOrIdle s) := by
    rcases hcases with ⟨hs, hto, hf, hstart⟩ | ⟨hs, hl, hto⟩
    · have hto' : s.txq.windowSize = 0 ∨ timedOut s = false :=
        hto.imp_right fun h => Bool.eq_false_iff.mpr (mt timedOut_iff.mp h)
      rw [getSymbol_of_linkInitialized hm ha hs, if_neg (not_headTimeout hto'), if_neg (by simp [hf]),
        if_neg (mt canStart_iff.mp hstart)]
    · rw [getSymbol_of_outputErrorStopped hm ha hs, if_neg (by simp [hl]), if_neg (mt timedOut_iff.mp hto)]
  rw [exec_portGetSymbol_of_ok hget, bufstatOrIdle]
  split
  next hbs => exact congrArg Host.Outcome.next (if_pos hbs).symm
  next hbs => exact congrArg Host.Outcome.next (if_neg hbs).symm

end Sys2Proof.Machine
end

section
/-!
What the host operations of 44_host_interface.md do (R271 to R277, R280 to R286).

The link and the queries are equations of the model's own operations: which rows the reserved codes decode to, when
`link_is_initialized` is true, what a counter id reads. SET_OUTBOUND_PACKET is `push_back`, which answers because a packet
of at most M words fits the back slot; GET_INBOUND_PACKET is `front_packet` and `pop_front`, which answer because an
occupied slot holds a packet (R61).
-/

namespace Sys2Proof.Machine

/-- The end of an operation that returns a result (R97). -/
theorem finishResult_eq (result : Word) (s : State) :
    finishResult result s = .next { s with response := ⟨result, .idle, []⟩ } := rfl

/-! ### The port registers and the link (R272 to R275) -/

/-- Settles O29: each operation writes its own register and ends without a result. -/
theorem setTimeAndTimeoutWriteTheirRegister : Obligations.SetTimeAndTimeoutWriteTheirRegister :=
  fun _ _ => ⟨finish_ok _, finish_ok _⟩

/-- A nonzero argument initializes the link (R274). -/
theorem exec_portSetStatus_up {arg : Word} (harg : arg ≠ 0#32) (s : State) :
    exec (.portSetStatus arg) s = .next { linkUp s with response := ⟨0#32, .idle, []⟩ } := by
  show execPortSetStatus arg s = _
  rw [execPortSetStatus, if_neg harg, finish_ok]

/-- A link that is down is initialized: the PORT_SET_STATUS(1) column of R50. -/
theorem linkUp_of_down {s : State} (h : s.rx.state = .uninitialized) : linkUp s =
    { s with rx := rxCleared .portInitialized, tx := txCleared .portInitialized, txq := windowReset s.txq } := if_pos h

/-- A link that is not down stays as it is (R274). -/
theorem linkUp_of_not_down {s : State} (h : s.rx.state ≠ .uninitialized) : linkUp s = s := if_neg h

/-- Settles O30: a nonzero argument initializes the link, by its state; the argument 0 drops it. -/
theorem setStatusInitializesAndDrops : Obligations.SetStatusInitializesAndDrops := by
  refine ⟨fun arg s harg hdown => ?initialized, fun arg s harg hup => ?kept, fun s => ?dropped⟩
  case initialized =>
    rw [exec_portSetStatus_up harg, linkUp_of_down hdown]
    rfl
  case kept => rw [exec_portSetStatus_up harg, linkUp_of_not_down hup]
  case dropped => exact finish_ok (linkDrop s)

/-! ### The reserved operation codes (R271) -/

/-- The rows of the reserved operation codes, for the code `op`. -/
def reservedRows (op : BitVec 8) : List Instr :=
  [.reservedOp0F, .reservedOp10To1F op, .reservedOp20To3F op, .reservedOp40To7F op, .reservedOp80ToFF op]

/-- A reserved row does nothing but answer. -/
theorem exec_of_reservedRow {i : Instr} {op : BitVec 8} (hi : i ∈ reservedRows op) (s : State) :
    exec i s = .next { s with response := ⟨0#32, .idle, []⟩ } := by
  simp only [reservedRows, List.mem_cons, List.not_mem_nil, or_false] at hi
  rcases hi with rfl | rfl | rfl | rfl | rfl <;> exact finish_ok s

/-- Every code from 0x0F on decodes to a reserved row. -/
theorem decode_mem_reservedRows {r : Request} (h : 0x0F ≤ r.op.toNat) :
    decode (.request r) ∈ reservedRows r.op := by
  rw [decode, decodeRequest]
  split
  case h_16 => simp [reservedRows]
  case h_17 => split_ifs <;> simp [reservedRows]
  all_goals omega

/-- Settles O31: by the row, and by the row a request's code decodes to. -/
theorem reservedOperationsChangeNothing : Obligations.ReservedOperationsChangeNothing :=
  ⟨fun _ _ s hi => exec_of_reservedRow hi s, fun _ s hop => exec_of_reservedRow (decode_mem_reservedRows hop) s⟩

/-! ### The queries (R280 to R286) -/

theorem rxStateCode_eq_two {r : RxState} : rxStateCode r = 2 ↔ r = .linkInitialized := by
  cases r <;> decide

theorem txStateCode_eq_two {t : TxState} : txStateCode t = 2 ↔ t = .linkInitialized := by
  cases t <;> decide

/-- The transmitter view is LINK_INITIALIZED when the state is, and no request hides it (R45). -/
theorem txView_eq_two {s : State} : txView s = 2 ↔ s.tx.mailbox = .noRequest ∧ s.tx.state = .linkInitialized := by
  rw [txView]
  split
  next hm => simp [hm, txStateCode_eq_two]
  next hm =>
    have : 4 + mailboxCode s.tx.mailbox ≠ 2 := by omega
    simp [hm, this]

/-- `link_is_initialized` in the registers (R45, R46). -/
theorem linkIsInitialized_iff {s : State} : linkIsInitialized s = true ↔
    s.rx.state = .linkInitialized ∧ s.tx.mailbox = .noRequest ∧ s.tx.state = .linkInitialized := by
  rw [linkIsInitialized, Bool.and_eq_true, beq_iff_eq, beq_iff_eq, rxStateCode_eq_two, txView_eq_two]

/-- The result of the two link queries, in the registers (R284, R286). -/
theorem linkResult_eq (s : State) : linkResult s =
    if s.rx.state = .linkInitialized ∧ s.tx.mailbox = .noRequest ∧ s.tx.state = .linkInitialized
    then 1#32 else 0#32 := if_congr linkIsInitialized_iff rfl rfl

/-- GET_COUNTER with the id of a counter (R44, R285). -/
theorem exec_getCounter_of_id (k : Fin 20) (s : State) : exec (.getCounter (BitVec.ofNat 32 k)) s =
    .next { s with response := ⟨s.counter.get k, .idle, []⟩ } := by
  have hk : (BitVec.ofNat 32 (k : Nat)).toNat = k := by
    rw [BitVec.toNat_ofNat]; omega
  show execGetCounter _ s = _
  simp only [execGetCounter, hk, k.isLt, dif_pos, Fin.eta, finishResult_eq]

/-- GET_COUNTER with an id that no counter has (R285). -/
theorem exec_getCounter_of_gt {id : Word} (h : 19 < id.toNat) (s : State) :
    exec (.getCounter id) s = .next { s with response := ⟨0#32, .idle, []⟩ } := by
  show execGetCounter id s = _
  rw [execGetCounter, dif_neg (by omega), finishResult_eq]

/-- Settles O32: each query is its value; the ids of R44 are checked one by one against `counterIndex`. -/
theorem queriesReturnTheirValue : Obligations.QueriesReturnTheirValue := by
  intro s
  refine ⟨finishResult_eq .., finishResult_eq .., finishResult_eq .., finishResult_eq .., fun i hi => ?link,
    fun e he => ⟨exec_getCounter_of_id e.1 s, ?named⟩, fun arg harg => exec_getCounter_of_gt harg s⟩
  case link =>
    have hexec : exec i s = finishResult (linkResult s) s := by
      simp only [List.mem_cons, List.not_mem_nil, or_false] at hi
      rcases hi with rfl | rfl <;> rfl
    rw [hexec, finishResult_eq, linkResult_eq]
  case named =>
    have hid : counterIndex e.2 = e.1 := by
      revert e
      decide
    exact congrArg s.counter.get hid

/-! ### The packet operations (R276, R277) -/

/-- A packet of at most M words fits the back slot, so `push_back` puts it there: its length word, its words in order, and
every other word of the buffer as before (R61, R125). -/
theorem pushBack_of_fits {cfg : Config} {q : Queue} {mem : Memory} {pkt : Packet} (hwf : Memory.wf mem)
    (hfree : q.available ≠ 0) (hback : q.backIndex < q.size) (hlen : pkt.length ≤ cfg.m) :
    ∃ mem', pushBack cfg q mem pkt =
        .ok ({ q with backIndex := (q.backIndex + 1) % q.size, available := q.available - 1 }, mem') ∧
      bufRead mem' (slotBase cfg q.backIndex) = some (BitVec.ofNat 32 pkt.length) ∧
      (∀ k < pkt.length, bufRead mem' (slotBase cfg q.backIndex + 1 + k) = pkt[k]?) ∧
      ∀ a : Nat, a < slotBase cfg q.backIndex ∨ slotBase cfg q.backIndex + pkt.length < a →
        bufRead mem' a = bufRead mem a := by
  have hin : slotBase cfg q.backIndex + pkt.length < slotLimit cfg q :=
    slot_in_limit cfg q hback (Nat.lt_succ_of_le hlen)
  obtain ⟨⟨q', mem'⟩, hpush⟩ := pushBack_isOk cfg q mem pkt hfree hin
  obtain ⟨-, rfl, -, hread⟩ := pushBack_ok cfg q q' mem mem' hwf pkt hpush
  refine ⟨mem', hpush, ?lengthWord, fun k hk => ?word, fun a ha => ?other⟩
  case lengthWord =>
    rw [hread, if_pos (by omega), Nat.sub_self, List.getElem?_cons_zero]
  case word =>
    rw [hread, if_pos (by omega), Nat.add_assoc, Nat.add_sub_cancel_left, Nat.add_comm 1 k, List.getElem?_cons_succ]
  case other => rw [hread, if_neg (by omega)]

/-- Settles O33: refused by the test of R276, and otherwise enqueued by `push_back`. -/
theorem setOutboundPacketRefusesOrEnqueues : Obligations.SetOutboundPacketRefusesOrEnqueues := by
  refine ⟨fun pkt s hbad => ?refused, fun pkt s hfree h1 hm hback hwf => ?enqueued⟩
  case refused =>
    show execSetOutboundPacket pkt s = _
    rw [execSetOutboundPacket, if_pos hbad, finishResult_eq]
  case enqueued =>
    obtain ⟨mem, hpush, hlength, hwords, hother⟩ := pushBack_of_fits hwf hfree hback hm
    refine ⟨mem, ?_, hlength, hwords, hother⟩
    show execSetOutboundPacket pkt s = _
    rw [execSetOutboundPacket, if_neg (by omega), hpush]
    exact finishResult_eq ..

/-- The packet of an occupied slot: it has 1 to M words, the slot's length word gives its length, and its words stand
behind that word in order (R61, R126). -/
theorem slotPacket_of_slotHolds {cfg : Config} {q : Queue} {mem : Memory} {i : Nat} (hi : i < q.size)
    (hs : SlotHolds cfg mem i) :
    ∃ pkt, slotPacket cfg q mem i = .ok pkt ∧
      bufRead mem (slotBase cfg i) = some (BitVec.ofNat 32 pkt.length) ∧
      1 ≤ pkt.length ∧ pkt.length ≤ cfg.m ∧
      ∀ k < pkt.length, bufRead mem (slotBase cfg i + 1 + k) = pkt[k]? := by
  obtain ⟨pkt, hpkt, hlength⟩ := slotPacket_isOk hi hs
  obtain ⟨⟨-, len, hlen, hlenword⟩, hwords⟩ := (slotPacket_eq_ok ..).mp hpkt
  obtain ⟨h1, hm, -⟩ := hs
  have hword : BitVec.ofNat 32 pkt.length = len := by rw [hlenword, BitVec.ofNat_toNat, BitVec.setWidth_eq]
  exact ⟨pkt, hpkt, hlen.trans (congrArg some hword.symm), hlength ▸ h1, hlength ▸ hm, fun k hk => (hwords k hk).2⟩

/-- The front slot of an inbound queue that holds a packet (R51.2, R61). -/
theorem frontSlot_of_inv {s : State} (h : Inv s) (hu : queueUsed s.rxq ≠ 0) :
    s.rxq.frontIndex < s.rxq.size ∧ SlotHolds s.cfg s.rxbuf s.rxq.frontIndex := by
  obtain ⟨-, hrx, -, -⟩ := inv_iff.mp h
  obtain ⟨-, -, -, hi, -⟩ := hrx.queue
  obtain ⟨hfront, -, -⟩ := hi (size_pos_of_used hu)
  have hslot := hrx.buffer.2 0 (Nat.pos_of_ne_zero hu)
  rw [Nat.add_zero, Nat.mod_eq_of_lt hfront] at hslot
  exact ⟨hfront, hslot⟩

/-- `pop_front` of a queue without a window moves the window's index with the front (R130). -/
theorem popFront_of_no_window {q : Queue} (hu : queueUsed q ≠ 0) (hw : q.windowSize = 0) :
    popFront q = .ok { q with
      frontIndex := (q.frontIndex + 1) % q.size
      available := q.available + 1
      windowIndex := (q.frontIndex + 1) % q.size } := by
  rw [popFront, if_neg hu, if_neg (by omega)]

/-- Settles O34: the front slot holds a packet, which is read and then removed; rxq has no window (R51.4). -/
theorem getInboundPacketReturnsTheFront : Obligations.GetInboundPacketReturnsTheFront := by
  refine ⟨fun s hempty => ?empty, fun s hinv hu => ?front⟩
  case empty =>
    show execGetInboundPacket s = _
    rw [execGetInboundPacket, if_pos hempty, finishResult_eq]
  case front =>
    obtain ⟨-, hrx, -, -⟩ := inv_iff.mp hinv
    obtain ⟨hfront, hslot⟩ := frontSlot_of_inv hinv hu
    obtain ⟨pkt, hpkt, hlength, h1, hm, hwords⟩ := slotPacket_of_slotHolds hfront hslot
    have hread : frontPacket s.cfg s.rxq s.rxbuf = .ok pkt := (if_neg hu).trans hpkt
    refine ⟨pkt, hlength, h1, hm, hwords, ?_⟩
    show execGetInboundPacket s = _
    rw [execGetInboundPacket, if_neg hu, hread, popFront_of_no_window hu hrx.noWindow]
    rfl

end Sys2Proof.Machine
end

section
/-!
The encodings of 30_encoding.md: the decoder and the encoder are inverses of each other.

The encoder keeps the bits of an input that the opcode table numbers (`inputBits_encode_decode`), so an input is of the row
that its decoded instruction is encoded in (Laws/PerInstr.lean).
-/

namespace Sys2Proof.Machine

open Sys2Proof.Laws

/-! ### What the pieces of an encoding are read as -/

/-- A 3-bit code is one of eight (R86 to R88). -/
theorem field3_cases (x : Field3) :
    x = 0#3 ∨ x = 1#3 ∨ x = 2#3 ∨ x = 3#3 ∨ x = 4#3 ∨ x = 5#3 ∨ x = 6#3 ∨ x = 7#3 := by
  revert x; decide

/-- A 2-bit tag is one of four (R80). -/
theorem tag_cases (tag : BitVec 2) : tag = 0#2 ∨ tag = 1#2 ∨ tag = 2#2 ∨ tag = 3#2 := by
  revert tag; decide

/-- A body is read back from the low 24 bits of a Control payload (R82). -/
theorem body_of_payload (c : Body) : (c.setWidth 32).setWidth 24 = c := by
  rw [BitVec.setWidth_setWidth_of_le _ (by decide), BitVec.setWidth_eq]

/-- A symbol is read back from its tag and its payload (R80 to R84). -/
theorem symbolOfPort_symbol (sym : Symbol) : symbolOfPort (symbolTag sym) (symbolPayload sym) = sym := by
  cases sym with
  | control c => exact congrArg Symbol.control (body_of_payload c)
  | idle | data | error => rfl

/-- The tag of what a tag is read as. -/
theorem symbolTag_symbolOfPort (tag : BitVec 2) (payload : Word) : symbolTag (symbolOfPort tag payload) = tag := by
  rcases tag_cases tag with rfl | rfl | rfl | rfl <;> rfl

/-- A body built for a row of format control-stype0 is read by the fields it was built of. -/
theorem decode_encodeStype0 (s0 : Field3) (p0 p1 : Field5) (s1 cmd : Field3) (crc : Field5) :
    decode (encodeStype0 s0 p0 p1 s1 cmd crc) = decodeByStype0 ⟨s0, p0, p1, s1, cmd, crc⟩ :=
  congrArg decodeByStype0 (fieldsOf_bodyOf _)

/-- A body built for a row of format control-stype1 is read by the fields it was built of. -/
theorem decode_encodeStype1 (s1 s0 : Field3) (p0 p1 : Field5) (cmd : Field3) (crc : Field5) :
    decode (encodeStype1 s1 s0 p0 p1 cmd crc) = decodeByStype1 ⟨s0, p0, p1, s1, cmd, crc⟩ :=
  congrArg decodeByStype1 (fieldsOf_bodyOf _)

/-- A code above 0x0F is read by the range it lies in (R98, R271). -/
theorem decode_encodeOp_reserved {op : BitVec 8} (h : 0x10 ≤ op.toNat) : decode (encodeOp op) =
    if op.toNat ≤ 0x1F then .reservedOp10To1F op
    else if op.toNat ≤ 0x3F then .reservedOp20To3F op
    else if op.toNat ≤ 0x7F then .reservedOp40To7F op
    else .reservedOp80ToFF op := by
  show decodeRequest (requestOf op) = _
  rw [decodeRequest]
  dsimp only [requestOf]
  split
  case h_17 => rfl
  all_goals omega

/-- Settles O1: by the row; the reserved codes by their ranges. -/
theorem encodedInstructionDecodesBack : Obligations.EncodedInstructionDecodesBack := by
  intro i hwf
  cases i with
  | openOp | portSetTime | portSetTimeout | portSetStatus | portGetSymbol | setOutboundPacket | getInboundPacket
  | getInboundQueueLength | getInboundQueueAvailable | getOutboundQueueLength | getOutboundQueueAvailable
  | getLinkIsInitialized | getStatus | getCounter | reservedOp0F => rfl
  | portAddSymbol sym => exact congrArg Instr.portAddSymbol (symbolOfPort_symbol sym)
  | reservedOp10To1F op =>
    have hrange : 0x10 ≤ op.toNat ∧ op.toNat ≤ 0x1F := by simpa [WellFormed] using hwf
    exact (decode_encodeOp_reserved (by omega)).trans (if_pos hrange.2)
  | reservedOp20To3F op =>
    have hrange : 0x20 ≤ op.toNat ∧ op.toNat ≤ 0x3F := by simpa [WellFormed] using hwf
    exact (decode_encodeOp_reserved (by omega)).trans ((if_neg (by omega)).trans (if_pos hrange.2))
  | reservedOp40To7F op =>
    have hrange : 0x40 ≤ op.toNat ∧ op.toNat ≤ 0x7F := by simpa [WellFormed] using hwf
    exact (decode_encodeOp_reserved (by omega)).trans
      ((if_neg (by omega)).trans ((if_neg (by omega)).trans (if_pos hrange.2)))
  | reservedOp80ToFF op =>
    have hrange : 0x80 ≤ op.toNat := by simpa [WellFormed] using hwf
    exact (decode_encodeOp_reserved (by omega)).trans
      ((if_neg (by omega)).trans ((if_neg (by omega)).trans (if_neg (by omega))))
  | symIdle | symData | symError => rfl
  | symControl c => exact congrArg Instr.symControl (body_of_payload c)
  | packetAccepted | packetRetry | packetNotAccepted | status | linkResponse | stype0Reserved3 | stype0Reserved6
  | stype0Reserved7 => exact decode_encodeStype0 ..
  | startOfPacket | stomp | endOfPacket | restartFromRetry | multicastEvent | nop | linkRequestInputStatus
  | linkRequestCmd0 | linkRequestCmd1 | linkRequestCmd2 | linkRequestCmd3 | linkRequestCmd5 | linkRequestCmd6
  | linkRequestCmd7 | stype1Reserved6 => exact decode_encodeStype1 ..

/-! ### The row of an input -/

/-- A body read by stype0 is encoded back (R85, R86). -/
theorem encode_decodeByStype0 (f : ControlFields) : encode (decodeByStype0 f) = .controlByStype0 (bodyOf f) := by
  obtain ⟨s0, p0, p1, s1, cmd, crc⟩ := f
  rcases field3_cases s0 with rfl | rfl | rfl | rfl | rfl | rfl | rfl | rfl <;> rfl

/-- A LINK_REQUEST is encoded back (R88). -/
theorem encode_decodeLinkRequest {f : ControlFields} (h : f.stype1 = 4#3) :
    encode (decodeLinkRequest f) = .controlByStype1 (bodyOf f) := by
  obtain ⟨s0, p0, p1, s1, cmd, crc⟩ := f
  obtain rfl : s1 = 4#3 := h
  rcases field3_cases cmd with rfl | rfl | rfl | rfl | rfl | rfl | rfl | rfl <;> rfl

/-- A body read by stype1 is encoded back (R85, R87). -/
theorem encode_decodeByStype1 (f : ControlFields) : encode (decodeByStype1 f) = .controlByStype1 (bodyOf f) := by
  by_cases hlreq : f.stype1 = 4#3
  · rw [← encode_decodeLinkRequest hlreq, decodeByStype1, hlreq]
    rfl
  obtain ⟨s0, p0, p1, s1, cmd, crc⟩ := f
  rcases field3_cases s1 with rfl | rfl | rfl | rfl | rfl | rfl | rfl | rfl
  case inr.inr.inr.inr.inl => exact absurd rfl hlreq
  all_goals rfl

/-- An instruction decoded from a request is encoded as a request with its code (R98, R271). -/
theorem encode_decodeRequest (r : Request) : ∃ r', encode (decodeRequest r) = .request r' ∧ r'.op = r.op := by
  have hop : ∀ {n : Nat}, r.op.toNat = n → r.op = BitVec.ofNat 8 n := fun h => by rw [← h, BitVec.ofNat_toNat, BitVec.setWidth_eq]
  rw [decodeRequest]
  split
  case h_17 => split_ifs <;> exact ⟨_, rfl, rfl⟩
  all_goals exact ⟨_, rfl, (hop ‹_›).symm⟩

/-- The encoder keeps an input's format and the bits that the opcode table numbers. -/
theorem inputBits_encode_decode (x : Input) :
    inputFormat (encode (decode x)) = inputFormat x ∧ inputBits (encode (decode x)) = inputBits x := by
  cases x with
  | request r =>
    obtain ⟨r', hr', hop⟩ := encode_decodeRequest r
    rw [decode, hr']
    exact ⟨rfl, congrArg (BitVec.setWidth 24) hop⟩
  | symbol tag payload =>
    have hsym : encode (decodeSymbol tag payload) = encodeSymbol (symbolOfPort tag payload) := by
      rw [decodeSymbol]; cases symbolOfPort tag payload <;> rfl
    rw [decode, hsym]
    exact ⟨rfl, congrArg (BitVec.setWidth 24) (symbolTag_symbolOfPort tag payload)⟩
  | controlByStype0 c =>
    rw [decode, encode_decodeByStype0, bodyOf_fieldsOf]; exact ⟨rfl, rfl⟩
  | controlByStype1 c =>
    rw [decode, encode_decodeByStype1, bodyOf_fieldsOf]; exact ⟨rfl, rfl⟩

/-- An instruction decoded from a request is well-formed: the operand of a reserved row is in the row's range. -/
theorem wellFormed_decodeRequest (r : Request) : WellFormed (decodeRequest r) = true := by
  rw [decodeRequest]
  split
  case h_17 =>
    simp only [imp_false] at *
    split_ifs <;> simp only [WellFormed, Bool.and_eq_true, decide_eq_true_eq] <;> omega
  all_goals rfl

theorem wellFormed_decodeByStype0 (f : ControlFields) : WellFormed (decodeByStype0 f) = true := by
  rw [decodeByStype0]; split <;> rfl

theorem wellFormed_decodeByStype1 (f : ControlFields) : WellFormed (decodeByStype1 f) = true := by
  rw [decodeByStype1]
  split
  case h_5 => rw [decodeLinkRequest]; split <;> rfl
  all_goals rfl

theorem wellFormed_decode (x : Input) : WellFormed (decode x) = true := by
  cases x with
  | request r => exact wellFormed_decodeRequest r
  | symbol tag payload => rw [decode, decodeSymbol]; split <;> rfl
  | controlByStype0 c => exact wellFormed_decodeByStype0 _
  | controlByStype1 c => exact wellFormed_decodeByStype1 _

/-- Every instruction is encoded in its row of the opcode table (Laws/PerInstr.lean). -/
theorem encodedRow {i : Instr} (hwf : WellFormed i = true) : rowMatches (opcodeRow i) (encode i) = true := by
  cases i with
  | openOp => exact EncodedRow.openOp hwf
  | portSetTime => exact EncodedRow.portSetTime _ hwf
  | portSetTimeout => exact EncodedRow.portSetTimeout _ hwf
  | portSetStatus => exact EncodedRow.portSetStatus _ hwf
  | portAddSymbol => exact EncodedRow.portAddSymbol _ hwf
  | portGetSymbol => exact EncodedRow.portGetSymbol hwf
  | setOutboundPacket => exact EncodedRow.setOutboundPacket _ hwf
  | getInboundPacket => exact EncodedRow.getInboundPacket hwf
  | getInboundQueueLength => exact EncodedRow.getInboundQueueLength hwf
  | getInboundQueueAvailable => exact EncodedRow.getInboundQueueAvailable hwf
  | getOutboundQueueLength => exact EncodedRow.getOutboundQueueLength hwf
  | getOutboundQueueAvailable => exact EncodedRow.getOutboundQueueAvailable hwf
  | getLinkIsInitialized => exact EncodedRow.getLinkIsInitialized hwf
  | getStatus => exact EncodedRow.getStatus hwf
  | getCounter => exact EncodedRow.getCounter _ hwf
  | reservedOp0F => exact EncodedRow.reservedOp0F hwf
  | reservedOp10To1F => exact EncodedRow.reservedOp10To1F _ hwf
  | reservedOp20To3F => exact EncodedRow.reservedOp20To3F _ hwf
  | reservedOp40To7F => exact EncodedRow.reservedOp40To7F _ hwf
  | reservedOp80ToFF => exact EncodedRow.reservedOp80ToFF _ hwf
  | symIdle => exact EncodedRow.symIdle hwf
  | symControl => exact EncodedRow.symControl _ hwf
  | symData => exact EncodedRow.symData _ hwf
  | symError => exact EncodedRow.symError hwf
  | packetAccepted => exact EncodedRow.packetAccepted _ _ _ _ _ hwf
  | packetRetry => exact EncodedRow.packetRetry _ _ _ _ _ hwf
  | packetNotAccepted => exact EncodedRow.packetNotAccepted _ _ _ _ _ hwf
  | status => exact EncodedRow.status _ _ _ _ _ hwf
  | linkResponse => exact EncodedRow.linkResponse _ _ _ _ _ hwf
  | stype0Reserved3 => exact EncodedRow.stype0Reserved3 _ _ _ _ _ hwf
  | stype0Reserved6 => exact EncodedRow.stype0Reserved6 _ _ _ _ _ hwf
  | stype0Reserved7 => exact EncodedRow.stype0Reserved7 _ _ _ _ _ hwf
  | startOfPacket => exact EncodedRow.startOfPacket _ _ _ _ _ hwf
  | stomp => exact EncodedRow.stomp _ _ _ _ _ hwf
  | endOfPacket => exact EncodedRow.endOfPacket _ _ _ _ _ hwf
  | restartFromRetry => exact EncodedRow.restartFromRetry _ _ _ _ _ hwf
  | multicastEvent => exact EncodedRow.multicastEvent _ _ _ _ _ hwf
  | nop => exact EncodedRow.nop _ _ _ _ _ hwf
  | linkRequestInputStatus => exact EncodedRow.linkRequestInputStatus _ _ _ _ hwf
  | linkRequestCmd0 => exact EncodedRow.linkRequestCmd0 _ _ _ _ hwf
  | linkRequestCmd1 => exact EncodedRow.linkRequestCmd1 _ _ _ _ hwf
  | linkRequestCmd2 => exact EncodedRow.linkRequestCmd2 _ _ _ _ hwf
  | linkRequestCmd3 => exact EncodedRow.linkRequestCmd3 _ _ _ _ hwf
  | linkRequestCmd5 => exact EncodedRow.linkRequestCmd5 _ _ _ _ hwf
  | linkRequestCmd6 => exact EncodedRow.linkRequestCmd6 _ _ _ _ hwf
  | linkRequestCmd7 => exact EncodedRow.linkRequestCmd7 _ _ _ _ hwf
  | stype1Reserved6 => exact EncodedRow.stype1Reserved6 _ _ _ _ _ hwf

/-- Settles O2: a row sees only the format and the bits that the encoder keeps, and what is encoded has its row. -/
theorem decodedInputMatchesItsRow : Obligations.DecodedInputMatchesItsRow := by
  refine ⟨fun x => ⟨wellFormed_decode x, ?row⟩, fun c => ⟨?byStype0, ?byStype1⟩⟩
  case row =>
    obtain ⟨hformat, hbits⟩ := inputBits_encode_decode x
    have hrow := encodedRow (wellFormed_decode x)
    rwa [rowMatches, hformat, hbits] at hrow
  case byStype0 => rw [decode, encode_decodeByStype0, bodyOf_fieldsOf]
  case byStype1 => rw [decode, encode_decodeByStype1, bodyOf_fieldsOf]

/-! ### Words of the spec, and unused fields -/

/-- Settles O6: each word is decoded by evaluation. -/
theorem specWordsDecode : Obligations.SpecWordsDecode := by
  refine ⟨?_, ?_, ?_, ?_, ?_, ?_, ?_, ?_⟩ <;> decide

/-- Only the used bits of a payload decide the symbol (R81, R82, R84). -/
theorem symbolOfPort_congr {tag : BitVec 2} {p p' : Word}
    (hcontrol : tag = 1#2 → p'.extractLsb' 0 24 = p.extractLsb' 0 24) (hdata : tag = 2#2 → p' = p) :
    symbolOfPort tag p' = symbolOfPort tag p := by
  rcases tag_cases tag with rfl | rfl | rfl | rfl
  · rfl
  · have h := hcontrol rfl
    simp only [BitVec.setWidth_eq_extractLsb' (show 24 ≤ 32 by decide), symbolOfPort]
    exact congrArg Symbol.control h
  · rw [hdata rfl]
  · rfl

/-- Settles O7: by the code of the operation, each of which uses one field at most. -/
theorem unusedRequestFieldsIgnored : Obligations.UnusedRequestFieldsIgnored := by
  intro r r' hop harg hsym hpkt
  have hcode : ∀ {n : Nat}, r.op.toNat = n → r.op = BitVec.ofNat 8 n := fun h => by rw [← h, BitVec.ofNat_toNat, BitVec.setWidth_eq]
  show decodeRequest r' = decodeRequest r
  rw [decodeRequest, decodeRequest, hop]
  split
  case h_2 h => rw [harg (by rw [hcode h]; decide)]
  case h_3 h => rw [harg (by rw [hcode h]; decide)]
  case h_4 h => rw [harg (by rw [hcode h]; decide)]
  case h_5 h =>
    obtain ⟨htag, hcontrol, hdata⟩ := hsym (hcode h)
    rw [htag, symbolOfPort_congr hcontrol hdata]
  case h_7 h => rw [hpkt (hcode h)]
  case h_15 h => rw [harg (by rw [hcode h]; decide)]
  all_goals rfl

end Sys2Proof.Machine
end

section
/-!
The CRC-16 of a packet (R155, R156, R158): the half word that leaves residue 0 is the CRC-16 of the bits before it.

Behind 16 more bits `x`, the register is what the same number of zero bits make of the register before, XOR `x`
(`crc16From_xor_shiftLeft`); and a zero bit takes no register to 0 but 0 (`crc16Bit_false_eq_zero`).
-/

namespace Sys2Proof.Machine

/-- The register of the CRC-16 after the bits of `v`, from the register `r` (R155). -/
def crc16From {n : Nat} (r : BitVec 16) (v : BitVec n) : BitVec 16 := (bitsMsbFirst v).foldl crc16Bit r

theorem crc16Word_eq_crc16From (w : Word) (r : BitVec 16) : crc16Word w r = crc16From r w := rfl

theorem crc16From_eq_foldl {n : Nat} (r : BitVec 16) (v : BitVec n) :
    crc16From r v = (List.range n).foldl (fun r k => crc16Bit r (v.getLsbD (n - 1 - k))) r := by
  rw [crc16From, bitsMsbFirst_eq_map, List.foldl_map]

/-- The polynomial is added when the bit shifted out and the input bit differ (R155). -/
theorem crc16Bit_eq_ite (r : BitVec 16) (b : Bool) :
    crc16Bit r b = if r.getLsbD 15 = b then r <<< 1 else (r <<< 1) ^^^ 0x1021#16 := by
  unfold crc16Bit
  cases r.getLsbD 15 <;> cases b <;> rfl

/-- The bits of two words, the upper one first (R9). -/
theorem bitsMsbFirst_append {m n : Nat} (u : BitVec m) (v : BitVec n) :
    bitsMsbFirst (u ++ v) = bitsMsbFirst u ++ bitsMsbFirst v := by
  have hlow : (List.range n).map (u ++ v).getLsbD = (List.range n).map v.getLsbD :=
    List.map_congr_left fun k hk => by rw [BitVec.getLsbD_append, if_pos (List.mem_range.mp hk)]
  have hhigh : (List.range m).map ((u ++ v).getLsbD ∘ (n + ·)) = (List.range m).map u.getLsbD :=
    List.map_congr_left fun k _ => by
      rw [Function.comp_apply, BitVec.getLsbD_append, if_neg (by omega), Nat.add_sub_cancel_left]
  simp only [bitsMsbFirst, List.map_reverse, ← List.reverse_append]
  rw [← hlow, ← hhigh, ← List.map_map, ← List.map_append, ← List.range_add, Nat.add_comm n m]

theorem crc16From_append {m n : Nat} (r : BitVec 16) (u : BitVec m) (v : BitVec n) :
    crc16From r (u ++ v) = crc16From (crc16From r u) v := by
  simp only [crc16From, bitsMsbFirst_append, List.foldl_append]

/-! ### Zero bits -/

/-- A zero bit takes no register to 0 but 0: the polynomial has bit 0. -/
theorem crc16Bit_false_eq_zero (r : BitVec 16) : crc16Bit r false = 0#16 ↔ r = 0#16 := by
  refine ⟨fun h => ?_, fun h => by rw [h]; rfl⟩
  have hbit : ∀ i < 16, (crc16Bit r false).getLsbD i = false := fun i _ => by rw [h]; simp
  rw [crc16Bit_eq_ite] at hbit
  split at hbit
  next htop =>
    refine BitVec.eq_of_getLsbD_eq fun i hi => ?_
    rcases Nat.lt_or_ge i 15 with hlt | hge
    · have hi' : i + 1 < 16 := by omega
      simpa [hi, hi'] using hbit (i + 1) hi'
    · rw [show i = 15 by omega, htop]; rfl
  next => exact absurd (hbit 0 (by decide)) (by simp)

theorem iterate_crc16Bit_false_eq_zero (k : Nat) (r : BitVec 16) : (crc16Bit · false)^[k] r = 0#16 ↔ r = 0#16 := by
  induction k with
  | zero => exact Iff.rfl
  | succ k ih => rw [Function.iterate_succ_apply', crc16Bit_false_eq_zero, ih]

theorem crc16From_zero {n : Nat} (r : BitVec 16) : crc16From r 0#n = (crc16Bit · false)^[n] r := by
  rw [crc16From_eq_foldl]
  simp only [BitVec.getLsbD_zero, List.foldl_const, List.length_range]

/-- Zero bits keep a register that is 0, and make no other 0. -/
theorem crc16From_zero_eq_zero {n : Nat} (r : BitVec 16) : crc16From r 0#n = 0#16 ↔ r = 0#16 := by
  rw [crc16From_zero, iterate_crc16Bit_false_eq_zero]

/-! ### Sixteen more bits -/

/-- One bit, the top one of `y`: the difference to `y` moves on as by a zero bit. -/
theorem crc16Bit_xor_shiftLeft (r y : BitVec 16) :
    crc16Bit r (y.getLsbD 15) ^^^ y <<< 1 = crc16Bit (r ^^^ y) false := by
  rw [crc16Bit, crc16Bit, BitVec.getLsbD_xor, Bool.xor_false, BitVec.shiftLeft_xor_distrib]
  split
  · ac_rfl
  · rfl

/-- After the upper `k` bits of `x`, the difference to the bits of `x` still to come is what `k` zero bits make of the
difference before. -/
theorem foldl_crc16Bit_xor_shiftLeft (r x : BitVec 16) {k : Nat} (hk : k ≤ 16) :
    (List.range k).foldl (fun q j => crc16Bit q (x.getLsbD (15 - j))) r ^^^ x <<< k =
      (crc16Bit · false)^[k] (r ^^^ x) := by
  induction k with
  | zero => rw [BitVec.shiftLeft_zero]; rfl
  | succ k ih =>
    have hbit : x.getLsbD (15 - k) = (x <<< k).getLsbD 15 := by
      simp only [BitVec.getLsbD_shiftLeft, show ¬ 15 < k by omega, decide_false, Bool.not_false, Bool.and_true, Nat.reduceLT, decide_true, Bool.true_and]
    rw [Function.iterate_succ_apply', ← ih (by omega), ← crc16Bit_xor_shiftLeft, List.range_succ, List.foldl_append,
      List.foldl_cons, List.foldl_nil, hbit, ← BitVec.shiftLeft_add]

/-- The register is 0 behind 16 bits exactly when they are the register before. -/
theorem crc16From_half_eq_zero (r x : BitVec 16) : crc16From r x = 0#16 ↔ x = r := by
  have hrun := foldl_crc16Bit_xor_shiftLeft r x (k := 16) le_rfl
  rw [BitVec.shiftLeft_eq_zero le_rfl, BitVec.xor_zero] at hrun
  rw [crc16From_eq_foldl, hrun, iterate_crc16Bit_false_eq_zero, BitVec.xor_eq_zero_iff, eq_comm]

theorem crc16Word_upperHalf_eq_zero (x r : BitVec 16) : crc16Word (x ++ 0#16) r = 0#16 ↔ x = r := by
  rw [crc16Word_eq_crc16From, crc16From_append, crc16From_zero_eq_zero, crc16From_half_eq_zero]

/-! ### Packets -/

theorem foldl_crc16Word_zeros_eq_zero (n : Nat) (r : BitVec 16) :
    (List.replicate n 0#32).foldl (fun q w => crc16Word w q) r = 0#16 ↔ r = 0#16 := by
  induction n generalizing r with
  | zero => exact Iff.rfl
  | succ n ih => rw [List.replicate_succ, List.foldl_cons, ih, crc16Word_eq_crc16From, crc16From_zero_eq_zero]

/-- With a mask that covers every bit, every word of a packet enters the CRC-16 whole (R156). -/
theorem crcFrom_eq_foldl {cfg : Config} (hmask : cfg.crc16FirstMask = 0xFFFFFFFF#32) (pkt : Packet) (k : Nat)
    (r : BitVec 16) : crcFrom cfg k pkt r = pkt.foldl (fun q w => crc16Word w q) r := by
  have hcovered : ∀ k w, crc16Covered cfg k w = w := fun k w => by
    rw [crc16Covered, hmask]
    exact (if_congr Iff.rfl BitVec.and_allOnes rfl).trans (ite_self w)
  induction pkt generalizing k r with
  | nil => rfl
  | cons w ws ih => rw [crcFrom, ih, hcovered, List.foldl_cons]

/-- Settles O5: the two facts about 16 more bits and about zero bits, put together for words and for packets. -/
theorem appendedCrcLeavesNoResidue : Obligations.AppendedCrcLeavesNoResidue := by
  refine ⟨?algorithm, ?examples, crc16Word_upperHalf_eq_zero, ?lowerHalf, foldl_crc16Word_zeros_eq_zero, ?packets⟩
  case algorithm =>
    intro w r
    simp only [crc16Word_eq_crc16From, crc16From_eq_foldl, crc16Bit_eq_ite]
  case examples => decide +kernel
  case lowerHalf =>
    intro x h r
    rw [crc16Word_eq_crc16From, crc16From_append, crc16From_half_eq_zero]
    rfl
  case packets =>
    intro cfg pkt x n hmask
    rw [packetResidue, packetResidue, crcFrom_eq_foldl hmask, crcFrom_eq_foldl hmask, List.foldl_append,
      List.foldl_cons, foldl_crc16Word_zeros_eq_zero, crc16Word_upperHalf_eq_zero]

end Sys2Proof.Machine
end

section
/-!
What one instruction can do: the ways an instruction completes (`ExecEffect`), what the delivery of a symbol is
(`SymbolEffect`), and what the two halves of a control symbol are (`Stype0Effect`, `Stype1Effect`). Statements about every
instruction are read off these cases, and none of them unfolds an instruction again.
-/

namespace Sys2Proof.Machine

/-! ### The ways an instruction completes -/

/-- The OPEN column of R50; the buffers keep their contents (R330). -/
def openedState (s : State) : State :=
  { s with
    rx := rxCleared .uninitialized
    tx := txCleared .uninitialized
    port := { time := 0#32, timeout := portTimeoutReset }
    rxq := queueInit s.cfg.rxWords s.cfg.slotWords
    txq := queueInit s.cfg.txWords s.cfg.slotWords
    counter := Vector.replicate 20 0#32
    response := Response.plain }

/-- How an instruction takes the state `s` to the next: by its kind of operation. -/
inductive ExecEffect (s : State) : Instr → State → Prop where
  | opened : ExecEffect s .openOp (openedState s)
  | timeSet (time : Word) :
    ExecEffect s (.portSetTime time) { s with port := { s.port with time := time }, response := Response.plain }
  | timeoutSet (dt : Word) :
    ExecEffect s (.portSetTimeout dt) { s with port := { s.port with timeout := dt }, response := Response.plain }
  | linkDropped : ExecEffect s (.portSetStatus 0#32) { linkDrop s with response := Response.plain }
  | linkUp {arg : Word} (harg : arg ≠ 0#32) :
    ExecEffect s (.portSetStatus arg) { linkUp s with response := Response.plain }
  | delivered {i : Instr} {sym : Symbol} {u : State} (hi : deliveredSymbol i = some sym)
    (hu : addSymbol sym s = .ok u) : ExecEffect s i { u with response := Response.plain }
  | emitted {u : State} {sym : Symbol} (h : getSymbol s = .ok (u, sym)) :
    ExecEffect s .portGetSymbol { u with response := { Response.plain with sym := sym } }
  | refused (pkt : Packet) : ExecEffect s (.setOutboundPacket pkt) { s with response := Response.plain }
  | enqueued {pkt : Packet} {q : Queue} {mem : Memory} (hlen : pkt.length ≤ s.cfg.m)
    (h : pushBack s.cfg s.txq s.txbuf pkt = .ok (q, mem)) :
    ExecEffect s (.setOutboundPacket pkt)
      { s with txq := q, txbuf := mem, response := { Response.plain with result := 1#32 } }
  | dequeued {pkt : Packet} {q : Queue} (hp : frontPacket s.cfg s.rxq s.rxbuf = .ok pkt)
    (hq : popFront s.rxq = .ok q) :
    ExecEffect s .getInboundPacket
      { s with rxq := q, response := { Response.plain with result := BitVec.ofNat 32 pkt.length, pkt := pkt } }
  | answered {i : Instr} (hi : ∀ pkt, i ≠ .setOutboundPacket pkt) (r : Response) :
    ExecEffect s i { s with response := r }

section execEffect

variable {s t : State} {i : Instr}

theorem execEffect_of_portSetStatus {arg : Word} (h : execPortSetStatus arg s = .next t) :
    ExecEffect s (.portSetStatus arg) t := by
  unfold execPortSetStatus at h
  split at h
  next harg => subst harg; cases h; exact .linkDropped
  next harg => cases h; exact .linkUp harg

theorem execEffect_of_setOutboundPacket {pkt : Packet} (h : execSetOutboundPacket pkt s = .next t) :
    ExecEffect s (.setOutboundPacket pkt) t := by
  unfold execSetOutboundPacket at h
  split at h
  · cases h; exact .refused pkt
  · rename_i hlen
    split at h
    · cases h
    · cases h; exact .enqueued (by omega) ‹_›

theorem execEffect_of_getInboundPacket (h : execGetInboundPacket s = .next t) :
    ExecEffect s .getInboundPacket t := by
  unfold execGetInboundPacket at h
  split at h
  · cases h; exact .answered (by simp) _
  split at h
  · cases h
  split at h
  · cases h
  · cases h; exact .dequeued ‹_› ‹_›

/-- Every instruction that completes does so in one of the ways of `ExecEffect`. -/
theorem execEffect_of_exec (h : exec i s = .next t) : ExecEffect s i t := by
  cases hsym : deliveredSymbol i with
  | some sym =>
    rw [exec_eq_addSymbol hsym] at h
    obtain ⟨u, hu, rfl⟩ := finish_eq_next.mp h
    exact .delivered hsym hu
  | none =>
    cases i with
    | openOp => cases h; exact .opened
    | portSetTime time => cases h; exact .timeSet time
    | portSetTimeout dt => cases h; exact .timeoutSet dt
    | portSetStatus arg => exact execEffect_of_portSetStatus h
    | portGetSymbol =>
      obtain ⟨u, sym, hu, rfl⟩ := execPortGetSymbol_eq_next.mp h
      exact .emitted hu
    | setOutboundPacket pkt => exact execEffect_of_setOutboundPacket h
    | getInboundPacket => exact execEffect_of_getInboundPacket h
    | getInboundQueueLength | getInboundQueueAvailable | getOutboundQueueLength | getOutboundQueueAvailable
    | getLinkIsInitialized | getStatus | getCounter | reservedOp0F | reservedOp10To1F | reservedOp20To3F
    | reservedOp40To7F | reservedOp80ToFF => cases h; exact .answered (by simp) _
    | _ => cases hsym

end execEffect

/-! ### The delivery of a symbol -/

/-- How the delivery of a symbol takes the state `s` to the next (R170 to R176). -/
inductive SymbolEffect (s : State) : Symbol → State → Prop where
  | ignored {sym : Symbol} (h : s.rx.state = .uninitialized ∨ sym = .idle) : SymbolEffect s sym s
  | error : SymbolEffect s .error (errorSymbol s)
  | data {w : Word} {u : State} (h : dataSymbol w s = .ok u) : SymbolEffect s (.data w) u
  | badCrc {c : Body} (h : crcGood c = false) : SymbolEffect s (.control c) (badCrcSymbol s)
  | good {f : ControlFields} {u v : State} (hh : Heard f s) (h0 : Stype0Leaves f s u)
    (h1 : stype1Code f u = .ok v) : SymbolEffect s (.control (bodyOf f)) (countUnsupported f v)

theorem symbolEffect_of_addSymbol {s t : State} {sym : Symbol} (h : addSymbol sym s = .ok t) :
    SymbolEffect s sym t := by
  by_cases hdown : s.rx.state = .uninitialized
  · rw [addSymbol_down sym hdown] at h
    cases h; exact .ignored (.inl hdown)
  cases sym with
  | idle => rw [addSymbol_idle] at h; cases h; exact .ignored (.inr rfl)
  | error => rw [addSymbol_error hdown] at h; cases h; exact .error
  | data w => rw [addSymbol_data] at h; exact .data h
  | control c =>
    obtain ⟨f, rfl⟩ : ∃ f, bodyOf f = c := ⟨fieldsOf c, bodyOf_fieldsOf c⟩
    rw [addSymbol_control _ hdown, controlSymbol_bodyOf] at h
    rcases controlSymbolWith_eq_ok.mp h with ⟨hbad, rfl⟩ | ⟨hgood, u, v, hu, hv, rfl⟩
    · exact .badCrc hbad
    · exact .good ⟨hdown, hgood⟩ hu hv

/-! ### The halves of a control symbol -/

/-- What the stype0 half of a control symbol does to the state `s` (R176): by its code, in the order of R176. -/
inductive Stype0Effect (f : ControlFields) (s : State) : State → Prop where
  | sop (h1 : f.stype1 = stype1Sop) : Stype0Effect f s (setBufferStatus f.param1 s)
  | accepted {u : State} (h1 : f.stype1 ≠ stype1Sop) (h0 : f.stype0 = stype0Acc)
    (hu : onAccepted f.param0 (setBufferStatus f.param1 s) = .ok u) : Stype0Effect f s u
  | retry (h1 : f.stype1 ≠ stype1Sop) (h0 : f.stype0 = stype0Retry) :
    Stype0Effect f s (onRetry f.param0 (setBufferStatus f.param1 s))
  | notAccepted (h1 : f.stype1 ≠ stype1Sop) (h0 : f.stype0 = stype0Nacc) :
    Stype0Effect f s (onNotAccepted f.param1 s)
  | status (h1 : f.stype1 ≠ stype1Sop) (h0 : f.stype0 = stype0Status) :
    Stype0Effect f s (onStatus f.param0 (setBufferStatus f.param1 s))
  | linkResponse {u : State} (h1 : f.stype1 ≠ stype1Sop)
    (h0 : f.stype0 ∉ [stype0Acc, stype0Retry, stype0Nacc, stype0Status])
    (hcode : f.stype0 = s.cfg.stype0LinkResponse) (hu : onLinkResponse f.param0 s = .ok u) : Stype0Effect f s u
  | reserved (h1 : f.stype1 ≠ stype1Sop) (h0 : f.stype0 ∉ [stype0Acc, stype0Retry, stype0Nacc, stype0Status])
    (hcode : f.stype0 ≠ s.cfg.stype0LinkResponse) : Stype0Effect f s s

theorem stype0Effect_of_stype0Leaves {f : ControlFields} {s u : State} (h : Stype0Leaves f s u) :
    Stype0Effect f s u := by
  by_cases h1 : f.stype1 = stype1Sop
  · rw [Stype0Leaves, stype0Step_sop h1] at h
    cases h; exact .sop h1
  rw [Stype0Leaves, stype0Step_half h1, stype0Code] at h
  split at h
  next h0 => exact .accepted h1 h0 h
  next hacc =>
  split at h
  next h0 => cases h; exact .retry h1 h0
  next hretry =>
  split at h
  next h0 => cases h; exact .notAccepted h1 h0
  next hnacc =>
  split at h
  next h0 => cases h; exact .status h1 h0
  next hstatus =>
  have h0 : f.stype0 ∉ [stype0Acc, stype0Retry, stype0Nacc, stype0Status] := by
    simp only [List.mem_cons, List.not_mem_nil, or_false, not_or]
    exact ⟨hacc, hretry, hnacc, hstatus⟩
  unfold linkResponseHalf at h
  split at h
  next hcode => exact .linkResponse h1 h0 hcode h
  next hcode => cases h; exact .reserved h1 h0 hcode

/-- What the stype1 half of a control symbol does to the state `u` (R176): by its code. -/
inductive Stype1Effect (f : ControlFields) (u : State) : State → Prop where
  | sop {v : State} (h1 : f.stype1 = stype1Sop) (hv : onSop f.param0 u = .ok v) : Stype1Effect f u v
  | stomp (h1 : f.stype1 = stype1Stomp) : Stype1Effect f u (onStomp u)
  | eop {v : State} (h1 : f.stype1 = stype1Eop) (hv : onEop u = .ok v) : Stype1Effect f u v
  | restart (h1 : f.stype1 = stype1Rfr) : Stype1Effect f u (onRestartFromRetry u)
  | linkRequest (h1 : f.stype1 = stype1Lreq) (hcmd : f.cmd = u.cfg.lreqInputStatus) :
    Stype1Effect f u (onLinkRequest u)
  | none : Stype1Effect f u u

theorem stype1Effect_of_stype1Code {f : ControlFields} {u v : State} (h : stype1Code f u = .ok v) :
    Stype1Effect f u v := by
  unfold stype1Code at h
  split at h
  next h1 => exact .sop h1 h
  split at h
  next h1 => cases h; exact .stomp h1
  split at h
  next h1 => exact .eop h1 h
  split at h
  next h1 => cases h; exact .restart h1
  split at h
  next h1 =>
    cases h
    unfold linkRequestHalf
    split
    next hcmd => exact .linkRequest h1 hcmd
    next => exact .none
  next => cases h; exact .none

end Sys2Proof.Machine
end

section
/-!
What the parts of an operation leave alone. `Steady` is kept by all of them but OPEN: the parameters, the pending
operations, and counters that do not fall. The parts of the receiver also leave the outbound queue and, but for the mailbox,
the transmitter (`RcvFrame`); the acknowledgement handlers leave the inbound queue and, but for the initialization of the
link, the receiver (`AckFrame`); the emission of a symbol leaves what a queue holds (`EmitFrame`).
-/

namespace Sys2Proof.Machine

/-! ### Parameters, pending operations, counters -/

/-- The parameters and the pending operations are as before, and no counter has fallen (R44, R71). -/
structure Steady (s t : State) : Prop where
  cfg : t.cfg = s.cfg
  pending : t.pending = s.pending
  counters : ∀ c : CounterId, (counterOf s c).toNat ≤ (counterOf t c).toNat

section steady

variable {s t u : State}

theorem counterOf_congr (h : t.counter = s.counter) (c : CounterId) : counterOf t c = counterOf s c :=
  congrArg (·.get (counterIndex c)) h

theorem Steady.of_counter_eq (hcfg : t.cfg = s.cfg) (hp : t.pending = s.pending) (hc : t.counter = s.counter) :
    Steady s t := ⟨hcfg, hp, fun c => by rw [counterOf_congr hc]⟩

theorem Steady.refl (s : State) : Steady s s := .of_counter_eq rfl rfl rfl

theorem Steady.trans (h : Steady s t) (h' : Steady t u) : Steady s u :=
  ⟨h'.cfg.trans h.cfg, h'.pending.trans h.pending, fun c => (h.counters c).trans (h'.counters c)⟩

theorem steady_incBy (c : CounterId) (d : Nat) (s : State) : Steady s (incBy c d s) :=
  ⟨rfl, rfl, fun c' => counter_le_incBy c d s (counterIndex c')⟩

/-- An operation that counts once, and writes other registers. -/
theorem Steady.of_inc (c : CounterId) (hcfg : t.cfg = s.cfg) (hp : t.pending = s.pending)
    (hc : t.counter = (inc c s).counter) : Steady s t :=
  (steady_incBy c 1 s).trans (.of_counter_eq hcfg hp hc)

/-- A new maximum of the latency is larger than the one before (R235). -/
theorem steady_recordLatency (lat : Word) (s : State) : Steady s (recordLatency lat s) := by
  unfold recordLatency
  split
  next hlt =>
    refine ⟨rfl, rfl, fun c => ?_⟩
    rw [counterOf_setCounter]
    split
    next hc => subst hc; exact hlt.le
    next => exact le_rfl
  next => exact .refl _

end steady

/-! ### The parts of a symbol -/

/-- A part of the processing of a symbol, before the count of R177: `Steady`, and it counts no unsupported symbol. -/
structure PartFrame (s t : State) : Prop extends Steady s t where
  unsupported : counterOf t .inboundErrorPacketUnsupported = counterOf s .inboundErrorPacketUnsupported

section partFrame

variable {s t u : State}

theorem PartFrame.of_counter_eq (hcfg : t.cfg = s.cfg) (hp : t.pending = s.pending) (hc : t.counter = s.counter) :
    PartFrame s t := ⟨.of_counter_eq hcfg hp hc, counterOf_congr hc _⟩

theorem PartFrame.refl (s : State) : PartFrame s s := .of_counter_eq rfl rfl rfl

theorem PartFrame.trans (h : PartFrame s t) (h' : PartFrame t u) : PartFrame s u :=
  ⟨h.toSteady.trans h'.toSteady, h'.unsupported.trans h.unsupported⟩

theorem partFrame_incBy {c : CounterId} (hc : c ≠ .inboundErrorPacketUnsupported) (d : Nat) (s : State) :
    PartFrame s (incBy c d s) := ⟨steady_incBy c d s, by rw [counterOf_incBy, if_neg hc.symm]⟩

/-- A part that counts once, and writes other registers. -/
theorem PartFrame.of_inc (c : CounterId) (hcu : c ≠ .inboundErrorPacketUnsupported) (hcfg : t.cfg = s.cfg)
    (hp : t.pending = s.pending) (hc : t.counter = (inc c s).counter) : PartFrame s t :=
  (partFrame_incBy hcu 1 s).trans (.of_counter_eq hcfg hp hc)

theorem partFrame_recordLatency (lat : Word) (s : State) : PartFrame s (recordLatency lat s) := by
  refine ⟨steady_recordLatency lat s, ?_⟩
  unfold recordLatency
  split
  · rw [counterOf_setCounter, if_neg (by decide)]
  · rfl

end partFrame

/-! ### The receiver's parts -/

/-- A part of the receiver leaves the outbound queue and, but for the mailbox, the transmitter. -/
structure RcvFrame (s t : State) : Prop extends PartFrame s t where
  txq : t.txq = s.txq
  txbuf : t.txbuf = s.txbuf
  tx : ∃ m p, t.tx = { s.tx with mailbox := m, mailboxParam := p }

section rcvFrame

variable {s t u : State}

theorem RcvFrame.trans (h : RcvFrame s t) (h' : RcvFrame t u) : RcvFrame s u := by
  obtain ⟨hp, hq, hb, m, p, htx⟩ := h
  obtain ⟨hp', hq', hb', m', p', htx'⟩ := h'
  exact ⟨hp.trans hp', hq'.trans hq, hb'.trans hb, m', p', by rw [htx', htx]⟩

/-- A part that writes no register of the transmitter. -/
theorem RcvFrame.of_tx_eq (h : PartFrame s t) (htx : t.tx = s.tx) (hq : t.txq = s.txq) (hb : t.txbuf = s.txbuf) :
    RcvFrame s t := ⟨h, hq, hb, s.tx.mailbox, s.tx.mailboxParam, htx⟩

theorem RcvFrame.refl (s : State) : RcvFrame s s := .of_tx_eq (.refl s) rfl rfl rfl

/-- An input error, counted (R302). -/
theorem rcvFrame_inputError {c : CounterId} (hc : c ≠ .inboundErrorPacketUnsupported) (cause : Field5) (s : State) :
    RcvFrame s (inputError cause (inc c s)) := ⟨.of_inc c hc rfl rfl rfl, rfl, rfl, _, _, rfl⟩

theorem rcvFrame_inc {c : CounterId} (hc : c ≠ .inboundErrorPacketUnsupported) (s : State) : RcvFrame s (inc c s) :=
  .of_tx_eq (partFrame_incBy hc 1 s) rfl rfl rfl

theorem rcvFrame_errorSymbol (s : State) : RcvFrame s (errorSymbol s) := by
  unfold errorSymbol
  split
  · exact rcvFrame_inputError (by decide) _ _
  · exact rcvFrame_inc (by decide) s

theorem rcvFrame_badCrcSymbol (s : State) : RcvFrame s (badCrcSymbol s) := by
  unfold badCrcSymbol
  split
  · exact rcvFrame_inputError (by decide) _ _
  · exact rcvFrame_inc (by decide) s

theorem rcvFrame_of_dataSymbol {w : Word} (h : dataSymbol w s = .ok t) : RcvFrame s t := by
  rcases dataSymbol_eq_ok h with ⟨-, rfl⟩ | ⟨-, -, rfl⟩ | ⟨-, -, -, mem, -, rfl⟩
  · exact .refl _
  · exact rcvFrame_inputError (by decide) _ _
  · exact .of_tx_eq (.of_counter_eq rfl rfl rfl) rfl rfl rfl

theorem rcvFrame_of_onEop (h : onEop s = .ok t) : RcvFrame s t := by
  rcases onEop_eq_ok h with ⟨-, rfl⟩ | ⟨-, -, rfl⟩ | ⟨-, -, -, -, rfl⟩ | ⟨-, -, -, -, hcommit⟩
  · exact .refl _
  · exact rcvFrame_inputError (by decide) _ _
  · exact rcvFrame_inputError (by decide) _ _
  · obtain ⟨q, mem, -, rfl⟩ := commitPacket_eq_ok hcommit
    exact .of_tx_eq (.of_inc .inboundComplete (by decide) rfl rfl rfl) rfl rfl rfl

theorem rcvFrame_startPacket (a : Field5) (s : State) : RcvFrame s (startPacket a s) := by
  rcases startPacket_eq (s := s) a with ⟨-, e⟩ | ⟨-, -, e⟩ | ⟨-, -, e⟩ <;> rw [e]
  · exact rcvFrame_inputError (by decide) _ _
  · exact ⟨.of_inc .inboundRetry (by decide) rfl rfl rfl, rfl, rfl, _, _, rfl⟩
  · exact .of_tx_eq (.of_counter_eq rfl rfl rfl) rfl rfl rfl

theorem rcvFrame_of_onSop {a : Field5} (h : onSop a s = .ok t) : RcvFrame s t := by
  rcases onSop_eq_ok h with ⟨-, rfl⟩ | ⟨-, -, rfl⟩ | ⟨-, -, v, hv, ⟨-, rfl⟩ | ⟨-, rfl⟩⟩
  · exact .refl _
  · exact rcvFrame_startPacket a s
  · exact rcvFrame_of_onEop hv
  · exact (rcvFrame_of_onEop hv).trans (rcvFrame_startPacket a v)

theorem rcvFrame_onLinkRequest (s : State) : RcvFrame s (onLinkRequest s) := by
  unfold onLinkRequest
  split
  · exact rcvFrame_inc (by decide) s
  · exact ⟨.of_inc .partnerLinkRequest (by decide) rfl rfl rfl, rfl, rfl, _, _, rfl⟩

/-- The stype1 half of a symbol is a part of the receiver. -/
theorem Stype1Effect.rcvFrame {f : ControlFields} (h : Stype1Effect f s t) : RcvFrame s t := by
  cases h with
  | sop _ hv => exact rcvFrame_of_onSop hv
  | stomp =>
    unfold onStomp
    split
    · exact .of_tx_eq (.of_counter_eq rfl rfl rfl) rfl rfl rfl
    · exact .refl _
  | eop _ hv => exact rcvFrame_of_onEop hv
  | restart =>
    unfold onRestartFromRetry
    split
    · exact .of_tx_eq (.of_counter_eq rfl rfl rfl) rfl rfl rfl
    · exact .refl _
  | linkRequest => exact rcvFrame_onLinkRequest s
  | none => exact .refl _

end rcvFrame

/-! ### The acknowledgement handlers -/

/-- A handler of the stype0 half leaves the inbound queue, `TXBUF` and `tx_buffer_status`, and of the receiver all but the
initialization of the link by a STATUS (R181). -/
structure AckFrame (s t : State) : Prop extends PartFrame s t where
  rxq : t.rxq = s.rxq
  rxbuf : t.rxbuf = s.rxbuf
  txbuf : t.txbuf = s.txbuf
  bufferStatus : t.tx.bufferStatus = s.tx.bufferStatus
  rx : t.rx = s.rx ∨
    s.rx.state = .portInitialized ∧ t.rx = { s.rx with statusReceived := true, state := .linkInitialized }

section ackFrame

variable {s t u : State}

theorem AckFrame.refl (s : State) : AckFrame s s := ⟨.refl s, rfl, rfl, rfl, rfl, .inl rfl⟩

theorem ackFrame_of_onAccepted {a : Field5} (h : onAccepted a s = .ok t) : AckFrame s t := by
  rcases onAccepted_eq_ok h with ⟨-, rfl⟩ | ⟨-, -, -, q, -, rfl⟩ | ⟨-, -, rfl⟩
  · exact .refl _
  · have hpart := (partFrame_recordLatency (elapsedSince s (frameStamp s.tx a)) s).trans
      (partFrame_incBy (c := .outboundComplete) (by decide) 1 _)
    obtain ⟨c, hlat⟩ := recordLatency_eq (elapsedSince s (frameStamp s.tx a)) s
    rw [hlat] at hpart ⊢
    exact ⟨hpart.trans (.of_counter_eq rfl rfl rfl), rfl, rfl, rfl, rfl, .inl rfl⟩
  · exact ⟨.of_inc .outboundErrorPacketAccepted (by decide) rfl rfl rfl, rfl, rfl, rfl, rfl, .inl rfl⟩

theorem ackFrame_onRetry (a : Field5) (s : State) : AckFrame s (onRetry a s) := by
  rcases onRetry_eq (s := s) a with ⟨-, e⟩ | ⟨-, -, e⟩ | ⟨-, -, e⟩ <;> rw [e]
  · exact .refl _
  · exact ⟨.of_inc .outboundRetry (by decide) rfl rfl rfl, rfl, rfl, rfl, rfl, .inl rfl⟩
  · exact ⟨.of_inc .outboundErrorPacketRetry (by decide) rfl rfl rfl, rfl, rfl, rfl, rfl, .inl rfl⟩

theorem partnerCounter_ne_unsupported (cause : Field5) : partnerCounter cause ≠ .inboundErrorPacketUnsupported := by
  unfold partnerCounter
  split_ifs <;> decide

theorem ackFrame_onNotAccepted (cause : Field5) (s : State) : AckFrame s (onNotAccepted cause s) := by
  have hpart := PartFrame.of_inc (s := s) (t := inc (partnerCounter cause) s) _
    (partnerCounter_ne_unsupported cause) rfl rfl rfl
  unfold onNotAccepted
  split
  · exact ⟨hpart.trans (.of_counter_eq rfl rfl rfl), rfl, rfl, rfl, rfl, .inl rfl⟩
  · exact ⟨hpart, rfl, rfl, rfl, rfl, .inl rfl⟩

theorem ackFrame_onStatus (a : Field5) (s : State) : AckFrame s (onStatus a s) := by
  unfold onStatus
  split
  next hs => exact ⟨.of_counter_eq rfl rfl rfl, rfl, rfl, rfl, rfl, .inr ⟨hs.1, rfl⟩⟩
  next => exact .refl _

theorem ackFrame_of_onLinkResponse {a : Field5} (h : onLinkResponse a s = .ok t) : AckFrame s t := by
  rcases onLinkResponse_eq_ok h with ⟨-, rfl⟩ | ⟨-, -, -, q, -, rfl⟩
  · exact .refl _
  · have hcomplete := partFrame_incBy (c := .outboundComplete) (by decide) (deliveredCount a s) s
    have hretry := partFrame_incBy (c := .outboundRetry) (by decide) 1 (incBy .outboundComplete (deliveredCount a s) s)
    exact ⟨(hcomplete.trans hretry).trans (.of_counter_eq rfl rfl rfl), rfl, rfl, rfl, rfl, .inl rfl⟩

/-- The peer's buf_status, if the symbol carries one (R89, R90, R183). -/
abbrev CarriesBufStatus (f : ControlFields) : Prop :=
  f.stype1 = 0#3 ∨ f.stype0 = 0#3 ∨ f.stype0 = 1#3 ∨ f.stype0 = 4#3

/-- The state in which the handler of a symbol's stype0 half starts: with the symbol's buf_status, if it carries one. -/
def withBufStatusOf (f : ControlFields) (s : State) : State :=
  if CarriesBufStatus f then setBufferStatus f.param1 s else s

/-- The stype0 half of a symbol is the write of its buf_status, and a handler. -/
theorem Stype0Effect.ackFrame {f : ControlFields} (h : Stype0Effect f s t) : AckFrame (withBufStatusOf f s) t := by
  have hcarries : CarriesBufStatus f → withBufStatusOf f s = setBufferStatus f.param1 s := fun h => if_pos h
  have hother : ¬ CarriesBufStatus f → withBufStatusOf f s = s := fun h => if_neg h
  cases h with
  | sop h1 => rw [hcarries (.inl h1)]; exact .refl _
  | accepted _ h0 hu => rw [hcarries (.inr (.inl h0))]; exact ackFrame_of_onAccepted hu
  | retry _ h0 => rw [hcarries (.inr (.inr (.inl h0)))]; exact ackFrame_onRetry ..
  | status _ h0 => rw [hcarries (.inr (.inr (.inr h0)))]; exact ackFrame_onStatus ..
  | notAccepted h1 h0 =>
    have hnone : ¬ CarriesBufStatus f := by
      rintro (h | h | h | h)
      · exact h1 h
      all_goals rw [h0] at h; exact absurd h (by decide)
    rw [hother hnone]; exact ackFrame_onNotAccepted ..
  | linkResponse h1 h0 _ hu =>
    have hnone : ¬ CarriesBufStatus f := by
      rintro (h | h | h | h)
      · exact h1 h
      all_goals exact h0 (by rw [h]; decide)
    rw [hother hnone]; exact ackFrame_of_onLinkResponse hu
  | reserved h1 h0 =>
    have hnone : ¬ CarriesBufStatus f := by
      rintro (h | h | h | h)
      · exact h1 h
      all_goals exact h0 (by rw [h]; decide)
    rw [hother hnone]; exact .refl _

theorem partFrame_withBufStatusOf (f : ControlFields) (s : State) : PartFrame s (withBufStatusOf f s) := by
  unfold withBufStatusOf
  split
  · exact .of_counter_eq rfl rfl rfl
  · exact .refl _

@[simp] theorem withBufStatusOf_rx (f : ControlFields) (s : State) : (withBufStatusOf f s).rx = s.rx := by
  unfold withBufStatusOf; split <;> rfl

@[simp] theorem withBufStatusOf_rxq (f : ControlFields) (s : State) : (withBufStatusOf f s).rxq = s.rxq := by
  unfold withBufStatusOf; split <;> rfl

@[simp] theorem withBufStatusOf_rxbuf (f : ControlFields) (s : State) : (withBufStatusOf f s).rxbuf = s.rxbuf := by
  unfold withBufStatusOf; split <;> rfl

@[simp] theorem withBufStatusOf_txbuf (f : ControlFields) (s : State) : (withBufStatusOf f s).txbuf = s.txbuf := by
  unfold withBufStatusOf; split <;> rfl

theorem withBufStatusOf_bufferStatus (f : ControlFields) (s : State) :
    (withBufStatusOf f s).tx.bufferStatus = if CarriesBufStatus f then f.param1 else s.tx.bufferStatus := by
  unfold withBufStatusOf; split <;> rfl

theorem Stype0Effect.partFrame {f : ControlFields} (h : Stype0Effect f s t) : PartFrame s t :=
  (partFrame_withBufStatusOf f s).trans h.ackFrame.toPartFrame

end ackFrame

theorem steady_countUnsupported (f : ControlFields) (s : State) : Steady s (countUnsupported f s) := by
  rcases countUnsupported_eq (s := s) f with e | e <;> rw [e]
  · exact .refl _
  · exact steady_incBy _ 1 s

/-- The delivery of a symbol is steady. -/
theorem SymbolEffect.steady {s t : State} {sym : Symbol} (h : SymbolEffect s sym t) : Steady s t := by
  cases h with
  | ignored => exact .refl _
  | error => exact (rcvFrame_errorSymbol s).toSteady
  | data h => exact (rcvFrame_of_dataSymbol h).toSteady
  | badCrc => exact (rcvFrame_badCrcSymbol s).toSteady
  | good _ h0 h1 =>
    exact ((stype0Effect_of_stype0Leaves h0).partFrame.toSteady.trans
      (stype1Effect_of_stype1Code h1).rcvFrame.toSteady).trans (steady_countUnsupported ..)

/-! ### The emission of a symbol -/

/-- What the emission of a symbol leaves of a state (R220): the inbound queue, `TXBUF`, what the outbound queue holds, and
the receiver but for the acknowledged ackID. -/
structure EmitFrame (s t : State) : Prop extends Steady s t where
  rx : ∃ a, t.rx = { s.rx with ackidAcked := a }
  rxq : t.rxq = s.rxq
  rxbuf : t.rxbuf = s.rxbuf
  txbuf : t.txbuf = s.txbuf
  txq : ∃ i w, t.txq = { s.txq with windowIndex := i, windowSize := w }
  bufferStatus : t.tx.bufferStatus = s.tx.bufferStatus

section emitFrame

variable {s t u : State} {sym : Symbol}

/-- An emission that writes registers of the transmitter only. -/
theorem EmitFrame.of_tx (h : Steady s t) (hrx : t.rx = s.rx) (hrq : t.rxq = s.rxq) (hrb : t.rxbuf = s.rxbuf)
    (htq : t.txq = s.txq) (htb : t.txbuf = s.txbuf) (hbs : t.tx.bufferStatus = s.tx.bufferStatus) : EmitFrame s t :=
  ⟨h, ⟨_, hrx⟩, hrq, hrb, htb, ⟨_, _, htq⟩, hbs⟩

theorem EmitFrame.refl (s : State) : EmitFrame s s := .of_tx (.refl s) rfl rfl rfl rfl rfl rfl

/-- A symbol that is not counted, and writes registers of the transmitter only. -/
theorem EmitFrame.of_uncounted (hc : t.counter = s.counter) (hcfg : t.cfg = s.cfg) (hp : t.pending = s.pending)
    (hrx : t.rx = s.rx) (hrq : t.rxq = s.rxq) (hrb : t.rxbuf = s.rxbuf) (htq : t.txq = s.txq)
    (htb : t.txbuf = s.txbuf) (hbs : t.tx.bufferStatus = s.tx.bufferStatus) : EmitFrame s t :=
  .of_tx (.of_counter_eq hcfg hp hc) hrx hrq hrb htq htb hbs

theorem emitFrame_mailboxSymbol (s : State) : EmitFrame s (mailboxSymbol s).1 := by
  unfold mailboxSymbol
  split
  · exact .of_uncounted rfl rfl rfl rfl rfl rfl rfl rfl rfl
  · exact .of_uncounted rfl rfl rfl rfl rfl rfl rfl rfl rfl
  · exact .of_uncounted rfl rfl rfl rfl rfl rfl rfl rfl rfl
  · exact .refl _

theorem emitFrame_of_dataOrEopSymbol (h : dataOrEopSymbol s = .ok (t, sym)) : EmitFrame s t := by
  obtain ⟨pkt, -, ⟨x, -, -, rfl⟩ | ⟨-, heop⟩⟩ := dataOrEopSymbol_eq_ok h
  · exact .of_uncounted rfl rfl rfl rfl rfl rfl rfl rfl rfl
  · unfold eopSymbol at heop
    split at heop
    · cases heop
    · rename_i q hq
      obtain ⟨-, rfl⟩ := (windowAdvance_eq_ok ..).mp hq
      cases heop
      exact ⟨.of_counter_eq rfl rfl rfl, ⟨_, rfl⟩, rfl, rfl, rfl, ⟨_, _, rfl⟩, rfl⟩

/-- Every case of R220 keeps the frame of an emission. -/
theorem emitFrame_of_getSymbol (h : getSymbol s = .ok (t, sym)) : EmitFrame s t := by
  rcases getSymbol_eq_ok h with ⟨-, rfl, -⟩ | ⟨-, -, e⟩ | ⟨-, -, -, e⟩ | ⟨-, hcases⟩
  · exact .refl _
  · obtain rfl : t = (mailboxSymbol s).1 := congrArg Prod.fst e
    exact emitFrame_mailboxSymbol s
  · cases e; exact ⟨.of_counter_eq rfl rfl rfl, ⟨_, rfl⟩, rfl, rfl, rfl, ⟨_, _, rfl⟩, rfl⟩
  rcases hcases with ⟨-, -, -, e⟩ | ⟨-, -, -, e⟩ | ⟨-, -, e⟩ | ⟨-, e⟩ | ⟨-, e⟩ | ⟨-, -, -, -, e⟩ |
    ⟨-, -, -, e⟩ | ⟨-, e⟩ | ⟨-, rfl, -⟩
  · cases e; exact .of_tx (.of_inc .outboundErrorTimeout rfl rfl rfl) rfl rfl rfl rfl rfl rfl
  · cases e; exact .of_tx (.of_inc .outboundErrorTimeout rfl rfl rfl) rfl rfl rfl rfl rfl rfl
  · cases e; exact .of_uncounted rfl rfl rfl rfl rfl rfl rfl rfl rfl
  · cases e; exact .of_uncounted rfl rfl rfl rfl rfl rfl rfl rfl rfl
  · cases e; exact .of_uncounted rfl rfl rfl rfl rfl rfl rfl rfl rfl
  · cases e; exact .of_uncounted rfl rfl rfl rfl rfl rfl rfl rfl rfl
  · exact emitFrame_of_dataOrEopSymbol e
  · cases e; exact .of_uncounted rfl rfl rfl rfl rfl rfl rfl rfl rfl
  · exact .refl _

end emitFrame

/-! ### Every instruction -/

section everyInstruction

variable {s t : State} {i : Instr}

theorem steady_linkUp (s : State) : Steady s (linkUp s) := by
  unfold linkUp
  split
  · exact .of_counter_eq rfl rfl rfl
  · exact .refl _

/-- Every instruction but OPEN is steady. -/
theorem ExecEffect.steady (h : ExecEffect s i t) (hi : i ≠ .openOp) : Steady s t := by
  have hresponse : ∀ (u : State) (r : Response), Steady u { u with response := r } :=
    fun _ _ => .of_counter_eq rfl rfl rfl
  cases h with
  | opened => exact absurd rfl hi
  | timeSet | timeoutSet | linkDropped | refused | enqueued | dequeued | answered =>
    exact .of_counter_eq rfl rfl rfl
  | linkUp => exact (steady_linkUp s).trans (hresponse ..)
  | delivered _ hu => exact (symbolEffect_of_addSymbol hu).steady.trans (hresponse ..)
  | emitted h => exact (emitFrame_of_getSymbol h).toSteady.trans (hresponse ..)

/-- OPEN clears the counters, and keeps the parameters and the pending operations (R270). -/
theorem exec_openOp (s : State) : exec .openOp s = .next (openedState s) := rfl

/-- No instruction writes the parameters or the pending operations. -/
theorem exec_cfg_pending (h : exec i s = .next t) : t.cfg = s.cfg ∧ t.pending = s.pending := by
  by_cases hi : i = .openOp
  · subst hi
    rw [exec_openOp] at h
    cases h; exact ⟨rfl, rfl⟩
  · have hsteady := (execEffect_of_exec h).steady hi
    exact ⟨hsteady.cfg, hsteady.pending⟩

end everyInstruction

/-- Settles O17: every other instruction is steady. -/
theorem countersNeverFall : Obligations.CountersNeverFall := by
  intro i s t h
  refine ⟨fun hi => ((execEffect_of_exec h).steady hi).counters, fun hi c => ?_⟩
  subst hi
  rw [exec_openOp] at h
  cases h
  exact Vector.getElem_replicate ..

end Sys2Proof.Machine
end

section
/-!
What no instruction reads: the response of the operation before, the operations that still wait and, but for
PORT_GET_SYMBOL, the timeout. A change of these three (`Relabel`) before an operation is the same change behind it.
-/

namespace Sys2Proof.Machine

/-- A change of `port_timeout`, of the pending operations and of the response. -/
structure Relabel where
  timeout : Word → Word
  pending : List Input → List Input
  response : Response → Response

/-- The state with the change made. -/
abbrev Relabel.on (m : Relabel) (s : State) : State :=
  { s with
    port := { s.port with timeout := m.timeout s.port.timeout }
    pending := m.pending s.pending
    response := m.response s.response }

/-- The outcome with a change made in its next state. -/
def mapNext (g : State → State) : Host.Outcome State Fault Refusal → Host.Outcome State Fault Refusal
  | .next t => .next (g t)
  | .fault e => .fault e
  | .refused r => .refused r

/-! ### The parts of a symbol -/

section parts

variable (m : Relabel) (s : State)

theorem relabel_ok : (Except.ok s : Except Fault State).map m.on = .ok (m.on s) := rfl

theorem relabel_recordLatency (lat : Word) : recordLatency lat (m.on s) = m.on (recordLatency lat s) := by
  simp only [recordLatency, apply_ite m.on]
  rfl

theorem relabel_onAccepted (a : Field5) : onAccepted a (m.on s) = (onAccepted a s).map m.on := by
  simp only [onAccepted, apply_ite (Except.map m.on), relabel_recordLatency]
  cases popFront s.txq <;> rfl

theorem relabel_onRetry (a : Field5) : onRetry a (m.on s) = m.on (onRetry a s) := by
  simp only [onRetry, apply_ite m.on]
  rfl

theorem relabel_onNotAccepted (cause : Field5) : onNotAccepted cause (m.on s) = m.on (onNotAccepted cause s) := by
  simp only [onNotAccepted, apply_ite m.on]
  rfl

theorem relabel_onStatus (a : Field5) : onStatus a (m.on s) = m.on (onStatus a s) := by
  simp only [onStatus, apply_ite m.on]

theorem relabel_onLinkResponse (a : Field5) : onLinkResponse a (m.on s) = (onLinkResponse a s).map m.on := by
  have hcount : deliveredCount a (m.on s) = deliveredCount a s := rfl
  simp only [onLinkResponse, hcount, apply_ite (Except.map m.on)]
  cases popFrontMany s.txq (deliveredCount a s) <;> rfl

theorem relabel_setBufferStatus (p1 : Field5) : setBufferStatus p1 (m.on s) = m.on (setBufferStatus p1 s) := rfl

theorem relabel_stype0Code (f : ControlFields) : stype0Code f (m.on s) = (stype0Code f s).map m.on := by
  simp only [stype0Code, acceptedHalf, retryHalf, notAcceptedHalf, statusHalf, linkResponseHalf,
    relabel_setBufferStatus, relabel_onAccepted, relabel_onRetry, relabel_onNotAccepted, relabel_onStatus,
    relabel_onLinkResponse, apply_ite (Except.map m.on), relabel_ok]

theorem relabel_errorSymbol : errorSymbol (m.on s) = m.on (errorSymbol s) := by
  simp only [errorSymbol, apply_ite m.on]
  rfl

theorem relabel_badCrcSymbol : badCrcSymbol (m.on s) = m.on (badCrcSymbol s) := by
  simp only [badCrcSymbol, apply_ite m.on]
  rfl

theorem relabel_dataSymbol (w : Word) : dataSymbol w (m.on s) = (dataSymbol w s).map m.on := by
  simp only [dataSymbol, apply_ite (Except.map m.on)]
  cases stageWord s.cfg s.rxq s.rxbuf s.rx.counter w <;> rfl

theorem relabel_onEop : onEop (m.on s) = (onEop s).map m.on := by
  simp only [onEop, commitPacket, apply_ite (Except.map m.on)]
  cases commitBack s.cfg s.rxq s.rxbuf s.rx.counter <;> rfl

theorem relabel_startPacket (a : Field5) : startPacket a (m.on s) = m.on (startPacket a s) := by
  simp only [startPacket, apply_ite m.on]
  rfl

theorem relabel_onSop (a : Field5) : onSop a (m.on s) = (onSop a s).map m.on := by
  simp only [onSop, relabel_onEop, relabel_startPacket, apply_ite (Except.map m.on)]
  cases onEop s with
  | error e => rfl
  | ok v => simp only [relabel_ok, relabel_startPacket, apply_ite (Except.map m.on)]

theorem relabel_onLinkRequest : onLinkRequest (m.on s) = m.on (onLinkRequest s) := by
  simp only [onLinkRequest, apply_ite m.on]
  rfl

theorem relabel_stype1Code (f : ControlFields) : stype1Code f (m.on s) = (stype1Code f s).map m.on := by
  simp only [stype1Code, onStomp, onRestartFromRetry, linkRequestHalf, relabel_onSop, relabel_onEop,
    relabel_onLinkRequest, apply_ite (Except.map m.on), relabel_ok, apply_ite m.on]

theorem relabel_countUnsupported (f : ControlFields) : countUnsupported f (m.on s) = m.on (countUnsupported f s) := by
  simp only [countUnsupported, apply_ite m.on]
  rfl

theorem relabel_stype0Step (f : ControlFields) :
    stype0Step f (stype0Code f) (m.on s) = (stype0Step f (stype0Code f) s).map m.on := by
  simp only [stype0Step, relabel_stype0Code, apply_ite (Except.map m.on)]
  rfl

theorem relabel_controlSymbol (c : Body) : controlSymbol c (m.on s) = (controlSymbol c s).map m.on := by
  simp only [controlSymbol, controlSymbolWith, goodSymbol, relabel_stype0Step, relabel_badCrcSymbol,
    apply_ite (Except.map m.on)]
  cases stype0Step (fieldsOf c) (stype0Code (fieldsOf c)) s with
  | error e => rfl
  | ok u =>
    simp only [Except.map, relabel_stype1Code]
    cases stype1Code (fieldsOf c) u with
    | error e => rfl
    | ok v => simp only [relabel_countUnsupported]

/-- The delivery of a symbol reads none of the three fields. -/
theorem relabel_addSymbol (sym : Symbol) : addSymbol sym (m.on s) = (addSymbol sym s).map m.on := by
  simp only [addSymbol, whenPortUp, apply_ite (Except.map m.on)]
  cases sym with
  | idle => rfl
  | error => simp only [relabel_errorSymbol, Except.map]
  | data w => simp only [relabel_dataSymbol, Except.map]
  | control c => simp only [relabel_controlSymbol, Except.map]

end parts

/-! ### The emission of a symbol, without a change of the timeout -/

section emission

variable (m : Relabel) (s : State)

/-- The change, of a state and the symbol emitted with it. -/
abbrev Relabel.onEmission (r : State × Symbol) : State × Symbol := (m.on r.1, r.2)

theorem relabel_mailboxSymbol : mailboxSymbol (m.on s) = m.onEmission (mailboxSymbol s) := by
  simp only [mailboxSymbol]
  cases s.tx.mailbox <;> rfl

theorem relabel_dataOrEopSymbol : dataOrEopSymbol (m.on s) = (dataOrEopSymbol s).map m.onEmission := by
  simp only [dataOrEopSymbol, eopSymbol]
  cases windowPacket s.cfg s.txq s.txbuf with
  | error e => rfl
  | ok pkt =>
    dsimp only
    cases pkt[s.tx.counter]? with
    | some x => rfl
    | none => dsimp only; cases windowAdvance s.txq <;> rfl

/-- PORT_GET_SYMBOL reads the timeout alone of the three fields. -/
theorem relabel_getSymbol (ht : m.timeout = id) : getSymbol (m.on s) = (getSymbol s).map m.onEmission := by
  have htimed : timedOut (m.on s) = timedOut s := by
    show decide ((m.timeout s.port.timeout).toNat < _) = _
    rw [ht]; rfl
  simp only [getSymbol, htimed, relabel_mailboxSymbol, relabel_dataOrEopSymbol, apply_ite (Except.map m.onEmission)]
  rfl

end emission

/-! ### Every instruction -/

section everyInstruction

variable {m : Relabel} {s : State}

theorem relabel_finish (hr : m.response = id) (r : Except Fault State) :
    finish (r.map m.on) = mapNext m.on (finish r) := by
  obtain ⟨timeout, pending, response⟩ := m
  obtain rfl : response = id := hr
  cases r <;> rfl

theorem relabel_finishResult (hr : m.response = id) (result : Word) :
    finishResult result (m.on s) = mapNext m.on (finishResult result s) := by
  obtain ⟨timeout, pending, response⟩ := m
  obtain rfl : response = id := hr
  rfl

theorem relabel_execSetOutboundPacket (hr : m.response = id) (pkt : Packet) :
    execSetOutboundPacket pkt (m.on s) = mapNext m.on (execSetOutboundPacket pkt s) := by
  simp only [execSetOutboundPacket, relabel_finishResult hr, apply_ite (mapNext m.on)]
  cases pushBack s.cfg s.txq s.txbuf pkt with
  | error e => rfl
  | ok r => simp only [← relabel_finishResult (s := { s with txq := r.1, txbuf := r.2 }) hr]

theorem relabel_execGetInboundPacket (hr : m.response = id) :
    execGetInboundPacket (m.on s) = mapNext m.on (execGetInboundPacket s) := by
  obtain ⟨timeout, pending, response⟩ := m
  obtain rfl : response = id := hr
  simp only [execGetInboundPacket, apply_ite (mapNext _)]
  cases frontPacket s.cfg s.rxq s.rxbuf with
  | error e => rfl
  | ok pkt => dsimp only; cases popFront s.rxq <;> rfl

theorem relabel_linkUp : linkUp (m.on s) = m.on (linkUp s) := by
  simp only [linkUp, apply_ite m.on]

theorem relabel_execPortSetStatus (hr : m.response = id) (arg : Word) :
    execPortSetStatus arg (m.on s) = mapNext m.on (execPortSetStatus arg s) := by
  rw [execPortSetStatus, execPortSetStatus, ← relabel_finish hr, relabel_linkUp, Except.map, apply_ite m.on]
  rfl

/-- An instruction that reads or writes `port_timeout`. -/
abbrev UsesTimeout (i : Instr) : Prop := i = .openOp ∨ i = .portGetSymbol ∨ ∃ dt, i = .portSetTimeout dt

/-- A change of the pending operations before an instruction is the same change behind it; so is a change of the timeout,
unless the instruction uses it. -/
theorem relabel_exec (i : Instr) (s : State) (hr : m.response = id) (ht : m.timeout = id ∨ ¬ UsesTimeout i) :
    exec i (m.on s) = mapNext m.on (exec i s) := by
  have htimeout : UsesTimeout i → m.timeout = id := fun h => ht.resolve_right (not_not.mpr h)
  cases hsym : deliveredSymbol i with
  | some sym =>
    rw [exec_eq_addSymbol hsym, exec_eq_addSymbol hsym, relabel_addSymbol, relabel_finish hr]
  | none =>
    cases i with
    | openOp =>
      obtain ⟨timeout, pending, response⟩ := m
      obtain rfl : response = id := hr
      obtain rfl : timeout = id := htimeout (.inl rfl)
      rfl
    | portSetTimeout dt =>
      obtain ⟨timeout, pending, response⟩ := m
      obtain rfl : response = id := hr
      obtain rfl : timeout = id := htimeout (.inr (.inr ⟨dt, rfl⟩))
      rfl
    | portGetSymbol =>
      show execPortGetSymbol (m.on s) = mapNext m.on (execPortGetSymbol s)
      rw [execPortGetSymbol, execPortGetSymbol, relabel_getSymbol m s (htimeout (.inr (.inl rfl)))]
      obtain ⟨timeout, pending, response⟩ := m
      obtain rfl : response = id := hr
      cases getSymbol s <;> rfl
    | portSetTime time => exact relabel_finish hr (.ok { s with port := { s.port with time := time } })
    | portSetStatus arg => exact relabel_execPortSetStatus hr arg
    | setOutboundPacket pkt => exact relabel_execSetOutboundPacket hr pkt
    | getInboundPacket => exact relabel_execGetInboundPacket hr
    | getInboundQueueLength | getInboundQueueAvailable | getOutboundQueueLength | getOutboundQueueAvailable
    | getLinkIsInitialized | getStatus | getCounter => exact relabel_finishResult hr _
    | reservedOp0F | reservedOp10To1F | reservedOp20To3F | reservedOp40To7F | reservedOp80ToFF =>
      exact relabel_finish hr (.ok s)
    | _ => cases hsym

end everyInstruction

/-- Settles O20: the instructions that write the timeout write it whatever it was; the others keep it. -/
theorem onlyPortGetSymbolTestsTheTimeout : Obligations.OnlyPortGetSymbolTestsTheTimeout := by
  intro i s t dt hi h
  by_cases huse : UsesTimeout i
  · rcases huse with rfl | rfl | ⟨dt', rfl⟩
    · cases h; exact ⟨_, rfl, rfl⟩
    · exact absurd rfl hi
    · cases h; exact ⟨_, rfl, rfl⟩
  · let m : Relabel := ⟨fun _ => dt, id, id⟩
    have hexec : exec i (m.on s) = .next (m.on t) := by rw [relabel_exec i s rfl (.inr huse), h]; rfl
    exact ⟨m.on t, hexec, rfl⟩

/-! ### Runs of issued operations (R71) -/

theorem issueAll_eq (xs : List Input) (s : State) : issueAll xs s = { s with pending := s.pending ++ xs } := by
  induction xs generalizing s with
  | nil => rw [List.append_nil]; rfl
  | cons x xs ih =>
    show issueAll xs (issueInput x s) = _
    rw [ih, issueInput_pending, List.append_assoc]
    rfl

/-- The first waiting operation runs, and the rest wait behind what it does. -/
theorem step_of_pending (x : Input) (xs : List Input) (s : State) :
    step { s with pending := x :: xs } = mapNext (fun t => { t with pending := xs }) (exec (decode x) s) :=
  relabel_exec (m := ⟨id, fun _ => xs, id⟩) (decode x) s rfl (.inl rfl)

/-- As many steps as operations wait are their instructions, one after the other. -/
theorem steps_of_pending (xs : List Input) {s : State} (hp : s.pending = []) :
    steps xs.length { s with pending := xs } = execAll (xs.map decode) s := by
  induction xs generalizing s with
  | nil => exact congrArg (fun p => Host.Outcome.next { s with pending := p }) hp.symm
  | cons x xs ih =>
    rw [List.length_cons, List.map_cons, steps, execAll, step_of_pending]
    cases hexec : exec (decode x) s with
    | next t => exact ih ((exec_cfg_pending hexec).2.trans hp)
    | fault e => rfl
    | refused r => rfl

/-- Settles O13: no instruction writes the two fields, and the waiting operations run from the first to the last. -/
theorem parametersAreNeverWritten : Obligations.ParametersAreNeverWritten := by
  refine ⟨fun i s t h => exec_cfg_pending h, fun xs s hp => ?_⟩
  rw [issueAll_eq, hp, List.nil_append]
  exact steps_of_pending xs hp

end Sys2Proof.Machine
end

section
/-!
The machine as a whole: steps, the invariant, and that every instruction completes.

An operation can only fail in a queue primitive or a buffer access. With `Inv` each of these has its precondition: the back
slot of a packet in progress is free, the window lies inside the queue, and an occupied slot holds a packet.
-/

namespace Sys2Proof.Machine

/-! ### Steps -/

/-- Settles O14: both are the delivery of the symbol. -/
theorem symbolRowIsPortAddSymbol : Obligations.SymbolRowIsPortAddSymbol := by
  intro i sym s hi
  rw [exec_eq_addSymbol hi]
  rfl

/-- A step runs the operation that waits first. -/
theorem step_of_cons {x : Input} {rest : List Input} {s : State} (h : s.pending = x :: rest) :
    step s = exec (decode x) { s with pending := rest } := by
  have hnext : nextInput s = some x := by rw [nextInput, h]; rfl
  have htake : takeInput s = { s with pending := rest } := by rw [takeInput, h]; rfl
  rw [step, runNext, hnext, ← htake]

/-- Settles O8: the next operation is the first that waits, and `withFetchWord` puts one in its place. -/
theorem stepRunsDecodedOperation : Obligations.StepRunsDecodedOperation := by
  refine ⟨fun x rest s h => step_of_cons h, fun s h => ?stutter, fun _ _ => rfl, fun nbits w i s hi => ?stored⟩
  case stutter => rw [step, runNext, nextInput, h]; rfl
  case stored =>
    obtain ⟨x, hx, rfl⟩ := Option.map_eq_some_iff.mp hi
    rw [State.withFetchWord, hx]
    exact step_of_cons rfl

/-! ### The invariant -/

/-- Settles O9: the OPEN column of R50 meets the invariant, for the standard parameters too. -/
theorem powerOnMeetsInvariant : Obligations.PowerOnMeetsInvariant :=
  ⟨fun _ hm => inv_powerOn hm, inv_powerOn (by decide)⟩

/-- Settles O10: every instruction keeps the three parts of the invariant. -/
theorem stepKeepsInvariant : Obligations.StepKeepsInvariant :=
  fun _ _ hinv hstep => step_keeps_inv hinv hstep

/-! ### Every instruction completes -/

section completion

variable {s : State}

theorem dataSymbol_isOk (h : Inv s) (w : Word) : ∃ t, dataSymbol w s = .ok t := by
  unfold dataSymbol
  split
  · exact ⟨_, rfl⟩
  split
  · exact ⟨_, rfl⟩
  · rename_i hc
    obtain ⟨hr, hc⟩ := not_or.mp hc
    rw [stageWord_of_inv h (by simpa using hr) hc]
    exact ⟨_, rfl⟩

theorem onSop_isOk (h : Inv s) (a : Field5) : ∃ t, onSop a s = .ok t := by
  unfold onSop
  split
  · exact ⟨_, rfl⟩
  split
  · obtain ⟨v, hv⟩ := onEop_isOk h
    rw [hv]
    dsimp only
    split <;> exact ⟨_, rfl⟩
  · exact ⟨_, rfl⟩

theorem stype1Code_isOk (h : Inv s) (f : ControlFields) : ∃ t, stype1Code f s = .ok t := by
  unfold stype1Code
  split
  · exact onSop_isOk h _
  split
  · exact ⟨_, rfl⟩
  split
  · exact onEop_isOk h
  split
  · exact ⟨_, rfl⟩
  split <;> exact ⟨_, rfl⟩

/-- The delivery of a symbol meets no fault: the invariant holds between its halves. -/
theorem addSymbol_isOk (h : Inv s) (sym : Symbol) : ∃ t, addSymbol sym s = .ok t := by
  by_cases hdown : s.rx.state = .uninitialized
  · exact ⟨s, addSymbol_down sym hdown⟩
  cases sym with
  | idle => exact ⟨s, addSymbol_idle s⟩
  | error => exact ⟨_, addSymbol_error hdown⟩
  | data w => rw [addSymbol_data]; exact dataSymbol_isOk h w
  | control c =>
    rw [addSymbol_control c hdown]
    cases hgood : crcGood c with
    | false => exact ⟨_, controlSymbol_of_bad hgood⟩
    | true =>
      obtain ⟨u, hu⟩ := stype0Leaves_exists (fieldsOf c) (window_le_used_of_inv h)
      have hinvu : Inv u := keepsInv_stype0Step _ (keepsInv_stype0Code _) h hu
      obtain ⟨v, hv⟩ := stype1Code_isOk hinvu (fieldsOf c)
      exact ⟨_, controlSymbolWith_eq_ok.mpr (.inr ⟨by rwa [bodyOf_fieldsOf], u, v, hu, hv, rfl⟩)⟩

/-- A frame goes on with its next word, or ends (R231, R232). -/
theorem dataOrEopSymbol_isOk (h : Inv s) (hf : s.tx.frameState = .body) : ∃ r, dataOrEopSymbol s = .ok r := by
  obtain ⟨pkt, -, hpkt, -⟩ := windowPacket_of_body h hf
  obtain ⟨hav, -, -⟩ := windowSlot_of_body h hf
  cases hx : pkt[s.tx.counter]? with
  | some x => exact ⟨_, dataOrEopSymbol_of_word hpkt hx⟩
  | none => exact ⟨_, (dataOrEopSymbol_of_end hpkt hx).trans (eopSymbol_of_window hav)⟩

theorem getSymbol_isOk (h : Inv s) : ∃ r, getSymbol s = .ok r := by
  unfold getSymbol
  iterate 9
    split
    next => exact ⟨_, rfl⟩
  split
  next hbody => exact dataOrEopSymbol_isOk h hbody.2
  next => split <;> exact ⟨_, rfl⟩

theorem execSetOutboundPacket_completes (h : Inv s) (pkt : Packet) :
    ∃ t, execSetOutboundPacket pkt s = .next t := by
  obtain ⟨-, -, htx, -⟩ := inv_iff.mp h
  unfold execSetOutboundPacket
  split
  · exact ⟨_, rfl⟩
  · rename_i hlen
    have hfree : s.txq.available ≠ 0 := by omega
    obtain ⟨mem, hpush, -⟩ := pushBack_of_fits (pkt := pkt) htx.buffer.1 hfree (backIndex_lt htx.queue hfree)
      (cfg := s.cfg) (by omega)
    rw [hpush]
    exact ⟨_, rfl⟩

theorem execGetInboundPacket_completes (h : Inv s) : ∃ t, execGetInboundPacket s = .next t := by
  obtain ⟨hempty, hfront⟩ := getInboundPacketReturnsTheFront
  by_cases hu : queueUsed s.rxq = 0
  · exact ⟨_, hempty s hu⟩
  · obtain ⟨pkt, -, -, -, -, hexec⟩ := hfront s h hu
    exact ⟨_, hexec⟩

/-- Every instruction completes in every state with the invariant. -/
theorem exec_completes (i : Instr) (h : Inv s) : ∃ t, exec i s = .next t := by
  cases hsym : deliveredSymbol i with
  | some sym =>
    obtain ⟨t, ht⟩ := addSymbol_isOk h sym
    exact ⟨_, by rw [exec_eq_addSymbol hsym, ht, finish_ok]⟩
  | none =>
    cases i with
    | portGetSymbol =>
      obtain ⟨r, hr⟩ := getSymbol_isOk h
      exact ⟨_, exec_portGetSymbol_of_ok hr⟩
    | setOutboundPacket pkt => exact execSetOutboundPacket_completes h pkt
    | getInboundPacket => exact execGetInboundPacket_completes h
    | openOp | portSetTime | portSetTimeout | portSetStatus | getInboundQueueLength | getInboundQueueAvailable
    | getOutboundQueueLength | getOutboundQueueAvailable | getLinkIsInitialized | getStatus | getCounter
    | reservedOp0F | reservedOp10To1F | reservedOp20To3F | reservedOp40To7F | reservedOp80ToFF => exact ⟨_, rfl⟩
    | _ => cases hsym

end completion

/-- Settles O11: a step is an instruction, or changes nothing. -/
theorem everyInstructionCompletes : Obligations.EveryInstructionCompletes := by
  refine ⟨fun i s h => exec_completes i h, fun s h => ?_⟩
  cases hp : s.pending with
  | nil => exact ⟨s, stepRunsDecodedOperation.2.1 s hp⟩
  | cons x rest =>
    rw [step_of_cons hp]
    exact exec_completes _ (s := { s with pending := rest }) h

/-! ### The shared operations -/

/-- Settles O18: an increment saturates at the largest word, and writes one counter. -/
theorem incrementSaturates : Obligations.IncrementSaturates := by
  intro c s
  refine ⟨?_, fun c' hc => by rw [counterOf_inc, if_neg hc], rfl⟩
  rw [counterOf_inc, if_pos rfl]
  apply BitVec.eq_of_toNat_eq
  rw [toNat_saturatingAdd]
  split
  next hne =>
    have hlt : (counterOf s c).toNat ≠ 0xFFFFFFFF := fun h => hne (BitVec.eq_of_toNat_eq h)
    rw [BitVec.toNat_add]
    simp only [BitVec.toNat_ofNat]
    omega
  next heq =>
    rw [not_not.mp heq]
    decide

/-- Settles O27: the three events are written out in the model as R302, R303 and R305 write them. -/
theorem errorEventsWriteTheirRegisters : Obligations.ErrorEventsWriteTheirRegisters :=
  ⟨fun _ _ => rfl, fun _ => rfl, fun _ => rfl⟩

/-- Settles O28: OPEN is the OPEN column of R50, which is also the state after power-on. -/
theorem openInitializesEverything : Obligations.OpenInitializesEverything :=
  ⟨exec_openOp, fun cfg => exec_openOp (State.powerOn cfg)⟩

/-! ### The one-step retirement (R238, D60) -/

/-- The packets of the window are in the queue, so retiring some of them is the update of R238. -/
theorem popFrontMany_of_window {q : Queue} {d : Nat} (h0 : 0 < d) (hd : d ≤ q.windowSize)
    (hq : q.windowSize ≤ queueUsed q) : popFrontMany q d = .ok { q with
      frontIndex := (q.frontIndex + d) % q.size, available := q.available + d, windowSize := q.windowSize - d } :=
  (popFrontMany_eq_ok ..).mpr (.inr ⟨h0, hd.trans hq, rfl⟩)

/-- Retiring one packet more is one `pop_front` more. -/
theorem popFrontMany_succ {q : Queue} {d : Nat} (hq : q.windowSize ≤ queueUsed q) (hd : d + 1 ≤ q.windowSize) :
    popFrontMany q (d + 1) = (popFrontMany q d).bind popFront := by
  rw [popFrontMany_of_window (Nat.succ_pos d) hd hq]
  rcases Nat.eq_zero_or_pos d with rfl | h0
  · exact (popFront_of_window (by omega) hq).symm
  · rw [popFrontMany_of_window h0 (by omega) hq]
    refine ((popFront_of_window ?_ ?_).trans ?_).symm
    · simp only; omega
    · simp only [queueUsed] at hq ⊢; omega
    · simp only [add_mod_succ, Nat.sub_sub, Nat.add_assoc]

/-- Adding `d` and then 1 with saturation is adding `d + 1` (R11, D59). -/
theorem saturatingAdd_succ (v : Word) (d : Nat) :
    saturatingAdd (saturatingAdd v d) 1 = saturatingAdd v (d + 1) := by
  apply BitVec.eq_of_toNat_eq
  simp only [toNat_saturatingAdd]
  omega

theorem saturatingAdd_zero (v : Word) : saturatingAdd v 0 = v := by
  apply BitVec.eq_of_toNat_eq
  have := v.isLt
  rw [toNat_saturatingAdd]
  omega

/-- Writing a counter with its own value changes nothing. -/
theorem setCounter_self (c : CounterId) (s : State) : setCounter c (counterOf s c) s = s := by
  have hset : s.counter.set (counterIndex c) (s.counter.get (counterIndex c)) = s.counter := Vector.set_getElem_self ..
  rw [setCounter, counterOf, hset]

theorem setCounter_setCounter (c : CounterId) (v v' : Word) (s : State) :
    setCounter c v (setCounter c v' s) = setCounter c v s := by
  simp only [setCounter, Vector.set_set]

/-- Settles O19: by the number of packets retired. -/
theorem retirementIsRepeatedPopFront : Obligations.RetirementIsRepeatedPopFront := by
  refine ⟨fun cfg words q d hq hd => ?retired, fun c d s => ?counted⟩
  case retired =>
    obtain ⟨-, -, hw, -⟩ := hq
    induction d with
    | zero => rfl
    | succ d ih => rw [popFrontMany_succ hw hd, ih (by omega), List.range_succ, List.foldl_append]; rfl
  case counted =>
    induction d with
    | zero => rw [incBy, saturatingAdd_zero, setCounter_self]; rfl
    | succ d ih =>
      rw [Function.iterate_succ_apply', ← ih, inc, incBy, incBy, incBy, counterOf_setCounter_self, saturatingAdd_succ,
        setCounter_setCounter]

end Sys2Proof.Machine
end

section
/-!
What an inbound control symbol writes (R93, R177, R183), and which events take a stopped machine out of its state (R304,
R307). Each statement is read off the ways an instruction completes (`ExecEffect`) and the frames of its parts.
-/

namespace Sys2Proof.Machine

/-! ### The count of unsupported symbols, and `tx_buffer_status` -/

section countFields

variable (f : ControlFields) (s : State)

@[simp] theorem countUnsupported_rx : (countUnsupported f s).rx = s.rx := by unfold countUnsupported; split <;> rfl
@[simp] theorem countUnsupported_tx : (countUnsupported f s).tx = s.tx := by unfold countUnsupported; split <;> rfl
@[simp] theorem countUnsupported_rxq : (countUnsupported f s).rxq = s.rxq := by unfold countUnsupported; split <;> rfl
@[simp] theorem countUnsupported_txq : (countUnsupported f s).txq = s.txq := by unfold countUnsupported; split <;> rfl
@[simp] theorem countUnsupported_rxbuf : (countUnsupported f s).rxbuf = s.rxbuf := by
  unfold countUnsupported; split <;> rfl
@[simp] theorem countUnsupported_txbuf : (countUnsupported f s).txbuf = s.txbuf := by
  unfold countUnsupported; split <;> rfl

end countFields

/-- A control symbol whose halves are processed: what its row leaves, half by half (R176, R177, R278). -/
theorem halves_of_exec {f : ControlFields} {i : Instr} {s t : State}
    (hi : deliveredSymbol i = some (.control (bodyOf f))) (hh : Heard f s) (h : exec i s = .next t) :
    ∃ u v, Stype0Leaves f s u ∧ stype1Code f u = .ok v ∧
      t = { countUnsupported f v with response := Response.plain } := by
  obtain ⟨hup, hgood⟩ := hh
  rw [exec_eq_addSymbol hi, addSymbol_control _ hup, controlSymbol_bodyOf] at h
  obtain ⟨w, hw, rfl⟩ := finish_eq_next.mp h
  rcases controlSymbolWith_eq_ok.mp hw with ⟨hbad, -⟩ | ⟨-, u, v, hu, hv, rfl⟩
  · rw [hgood] at hbad; cases hbad
  · exact ⟨u, v, hu, hv, rfl⟩

/-- With the default code of LINK_RESPONSE, the codes 3, 6 and 7 are unsupported (R93). -/
theorem stype0Unsupported_iff_of_default {cfg : Config} (hcfg : cfg.stype0LinkResponse = 5#3) (code : Field3) :
    stype0Unsupported cfg code = true ↔ code = 3#3 ∨ code = 6#3 ∨ code = 7#3 := by
  rw [stype0Unsupported, hcfg]
  revert code
  decide

/-- Settles O25: the halves leave the counter, and the symbol's last line counts R93. -/
theorem unsupportedSymbolIsCountedOnce : Obligations.UnsupportedSymbolIsCountedOnce := by
  intro f s t hcode hh h
  obtain ⟨u, v, h0, h1, rfl⟩ := halves_of_exec rfl hh h
  have hpart : PartFrame s v :=
    (stype0Effect_of_stype0Leaves h0).partFrame.trans (stype1Effect_of_stype1Code h1).rcvFrame.toPartFrame
  have hiff : unsupported v.cfg f = true ↔ ((f.stype0 = 3#3 ∨ f.stype0 = 6#3 ∨ f.stype0 = 7#3) ∧ f.stype1 ≠ 0#3) ∨
      f.stype1 = 6#3 ∨ (f.stype1 = 4#3 ∧ f.cmd ≠ s.cfg.lreqInputStatus) := by
    rw [hpart.cfg, unsupported_iff, stype0Unsupported_iff_of_default hcode]
    rfl
  show counterOf (countUnsupported f v) _ = _
  rw [← hpart.unsupported, ← if_congr hiff rfl rfl]
  split
  next hun => rw [countUnsupported_of_unsupported hun, counterOf_inc, if_pos rfl]
  next hun => rw [countUnsupported_of_supported hun]

/-- The stype1 half writes nothing of the transmitter but the mailbox, so not `tx_buffer_status` (R183). -/
theorem RcvFrame.bufferStatus {s t : State} (h : RcvFrame s t) : t.tx.bufferStatus = s.tx.bufferStatus := by
  obtain ⟨m, p, htx⟩ := h.tx
  rw [htx]

/-- A symbol writes `tx_buffer_status` if both its halves are processed and it carries one (R183). -/
theorem bufferStatus_of_halves {f : ControlFields} {s u v : State} (h0 : Stype0Effect f s u)
    (h1 : Stype1Effect f u v) : v.tx.bufferStatus = if CarriesBufStatus f then f.param1 else s.tx.bufferStatus := by
  rw [h1.rcvFrame.bufferStatus, h0.ackFrame.bufferStatus, withBufStatusOf_bufferStatus]

/-- A symbol whose halves are not processed leaves `tx_buffer_status`. -/
theorem SymbolEffect.bufferStatus {s t : State} {sym : Symbol} (h : SymbolEffect s sym t) :
    (∃ f, sym = .control (bodyOf f) ∧ Heard f s) ∨ t.tx.bufferStatus = s.tx.bufferStatus := by
  cases h with
  | ignored => exact .inr rfl
  | error => exact .inr (rcvFrame_errorSymbol s).bufferStatus
  | data h => exact .inr (rcvFrame_of_dataSymbol h).bufferStatus
  | badCrc => exact .inr (rcvFrame_badCrcSymbol s).bufferStatus
  | good hh => exact .inl ⟨_, rfl, hh⟩

/-- Settles O26: the symbols that carry a buf_status, and the two initializations of R50. -/
theorem bufferStatusIsWrittenByFourSymbols : Obligations.BufferStatusIsWrittenByFourSymbols := by
  refine ⟨fun f i s t hi hh h => ?symbol, fun i s t h hne => ?writers⟩
  case symbol =>
    obtain ⟨u, v, h0, h1, rfl⟩ := halves_of_exec hi hh h
    exact (congrArg TxRegs.bufferStatus (countUnsupported_tx f v)).trans
      (bufferStatus_of_halves (stype0Effect_of_stype0Leaves h0) (stype1Effect_of_stype1Code h1))
  case writers =>
    cases execEffect_of_exec h with
    | opened => exact .inr ⟨rfl, .inl rfl⟩
    | timeSet | timeoutSet | linkDropped | refused | enqueued | dequeued | answered => exact absurd rfl hne
    | @linkUp arg harg =>
      by_cases hdown : s.rx.state = .uninitialized
      · exact .inr ⟨by rw [linkUp_of_down hdown]; rfl, .inr ⟨arg, rfl, harg, hdown⟩⟩
      · rw [linkUp_of_not_down hdown] at hne
        exact absurd rfl hne
    | delivered hi hu =>
      rcases (symbolEffect_of_addSymbol hu).bufferStatus with ⟨f, rfl, hh⟩ | heq
      · exact .inl ⟨f, hi, hh⟩
      · exact absurd heq hne
    | emitted hget => exact absurd (emitFrame_of_getSymbol hget).bufferStatus hne

/-! ### The receiver's stopped states (R304) -/

/-- The receiver is stopped (R302, R303). -/
abbrev RxStopped (s : State) : Prop := s.rx.state = .inputErrorStopped ∨ s.rx.state = .inputRetryStopped

section receiverStopped

variable {s t u v : State} {f : ControlFields} {sym : Symbol}

theorem RxStopped.not_linkInitialized (h : RxStopped s) : s.rx.state ≠ .linkInitialized := by
  rcases h with h | h <;> simp [h]

theorem RxStopped.past_initialization (h : RxStopped s) :
    ¬ (s.rx.state = .uninitialized ∨ s.rx.state = .portInitialized) := by
  rcases h with h | h <;> simp [h]

/-- The stype0 half leaves the registers of a stopped receiver: a STATUS initializes the link from PORT_INITIALIZED only
(R181). -/
theorem Stype0Effect.rx_of_stopped (h : Stype0Effect f s u) (hs : RxStopped s) : u.rx = s.rx := by
  have hrx := h.ackFrame.rx
  rw [withBufStatusOf_rx] at hrx
  rcases hrx with hrx | ⟨hport, -⟩
  · exact hrx
  · exact absurd (.inr hport) hs.past_initialization

/-- A LINK_REQUEST(input-status) brings a receiver past initialization back (R188). -/
theorem onLinkRequest_of_stopped (hs : RxStopped s) :
    onLinkRequest s = inputRecover (portStatusOf s.cfg s.rx.state) (inc .partnerLinkRequest s) :=
  if_neg hs.past_initialization

theorem portStatusOf_of_stopped (cfg : Config) (hs : RxStopped s) : portStatusOf cfg s.rx.state =
    if s.rx.state = .inputErrorStopped then cfg.psErrorStopped else cfg.psRetryStopped := by
  rcases hs with hs | hs <;> rw [hs] <;> rfl

/-- What takes a stopped receiver to another state: LINK_REQUEST(input-status), and RESTART_FROM_RETRY from
INPUT_RETRY_STOPPED (R187, R188, R304). -/
theorem Stype1Effect.rx_of_stopped (h : Stype1Effect f u v) (hs : RxStopped u) (hne : v.rx.state ≠ u.rx.state) :
    (f.stype1 = stype1Lreq ∧ f.cmd = u.cfg.lreqInputStatus ∧
      v = inputRecover (portStatusOf u.cfg u.rx.state) (inc .partnerLinkRequest u)) ∨
    (f.stype1 = stype1Rfr ∧ u.rx.state = .inputRetryStopped ∧ v.rx.state = .linkInitialized) := by
  have hnot := hs.not_linkInitialized
  cases h with
  | sop _ hv => rw [onSop, if_pos hnot] at hv; cases hv; exact absurd rfl hne
  | stomp => rw [onStomp, if_neg fun h => hnot h.1] at hne; exact absurd rfl hne
  | eop _ hv => rw [onEop, if_pos hnot] at hv; cases hv; exact absurd rfl hne
  | restart h1 =>
    by_cases hretry : u.rx.state = .inputRetryStopped
    · exact .inr ⟨h1, hretry, by rw [onRestartFromRetry, if_pos hretry]⟩
    · rw [onRestartFromRetry, if_neg hretry] at hne; exact absurd rfl hne
  | linkRequest h1 hcmd => exact .inl ⟨h1, hcmd, onLinkRequest_of_stopped hs⟩
  | none => exact absurd rfl hne

/-- A counted event that stops an armed receiver, and no other: the receiver that it stops was in INPUT_RETRY_STOPPED. -/
theorem armed_of_stopped {cause : Field5} {c : CounterId} (hs : RxStopped s)
    (hne : (if inputErrorArmed s then inputError cause (inc c s) else inc c s).rx.state ≠ s.rx.state) :
    s.rx.state = .inputRetryStopped ∧
      (if inputErrorArmed s then inputError cause (inc c s) else inc c s).rx.state = .inputErrorStopped := by
  by_cases harmed : inputErrorArmed s = true
  · rw [if_pos harmed]
    exact ⟨(inputErrorArmed_iff.mp harmed).resolve_left hs.not_linkInitialized, rfl⟩
  · rw [if_neg harmed] at hne
    exact absurd rfl hne

end receiverStopped

/-- Settles O15: of the ways an instruction completes, those that write `rx_state` of a stopped receiver. -/
theorem receiverLeavesStoppedStatesOnlyBy : Obligations.ReceiverLeavesStoppedStatesOnlyBy := by
  intro i s t h hne hs
  have hup : s.rx.state ≠ .uninitialized := fun hd => RxStopped.past_initialization hs (.inl hd)
  cases execEffect_of_exec h with
  | opened => exact .inl ⟨.inl rfl, rfl⟩
  | linkDropped => exact .inl ⟨.inr rfl, rfl⟩
  | timeSet | timeoutSet | refused | enqueued | dequeued | answered => exact absurd rfl hne
  | linkUp => rw [linkUp_of_not_down hup] at hne; exact absurd rfl hne
  | emitted hget =>
    obtain ⟨a, hrx⟩ := (emitFrame_of_getSymbol hget).rx
    exact absurd (congrArg RxRegs.state hrx) hne
  | delivered hi hu =>
    cases symbolEffect_of_addSymbol hu with
    | ignored => exact absurd rfl hne
    | error =>
      obtain ⟨hretry, herror⟩ := armed_of_stopped hs hne
      exact .inr (.inr ⟨hretry, .inr ⟨.inl hi, herror⟩⟩)
    | badCrc hbad =>
      obtain ⟨hretry, herror⟩ := armed_of_stopped hs hne
      exact .inr (.inr ⟨hretry, .inr ⟨.inr ⟨_, hi, hbad⟩, herror⟩⟩)
    | data hdata =>
      rw [dataSymbol, if_pos (RxStopped.not_linkInitialized hs)] at hdata
      cases hdata; exact absurd rfl hne
    | @good f u v hh h0 h1 =>
      have heffect0 := stype0Effect_of_stype0Leaves h0
      have hrx : u.rx = s.rx := heffect0.rx_of_stopped hs
      have hcfg : u.cfg = s.cfg := heffect0.partFrame.cfg
      have hstate : (countUnsupported f v).rx.state = v.rx.state := by rw [countUnsupported_rx]
      have hneuv : v.rx.state ≠ u.rx.state := by rw [hrx, ← hstate]; exact hne
      have hsu : RxStopped u := by rw [RxStopped, hrx]; exact hs
      rcases (stype1Effect_of_stype1Code h1).rx_of_stopped hsu hneuv with ⟨hlreq, hcmd, rfl⟩ | ⟨hrfr, hretry, hlink⟩
      · refine .inr (.inl ⟨f, hi, hh.2, hlreq, by rw [hcmd, hcfg], ?_⟩)
        simp only [countUnsupported_rx, countUnsupported_tx, inputRecover_rx, inputRecover_tx, inc_rx, inc_tx]
        refine ⟨trivial, trivial, trivial, trivial, ?_⟩
        rw [portStatusOf_of_stopped u.cfg hsu, hrx, hcfg]
      · exact .inr (.inr ⟨by rw [← hrx]; exact hretry, .inl ⟨f, hi, hh.2, hrfr, hstate.trans hlink⟩⟩)

/-! ### The transmitter's stopped states (R307) -/

/-- The transmitter is stopped (R305, R236). -/
abbrev TxStopped (s : State) : Prop := s.tx.state = .outputErrorStopped ∨ s.tx.state = .outputRetryStopped

/-- The event of R307 by which a stype0 half takes a stopped transmitter to another state, and where it leads. -/
inductive TxRecovery (f : ControlFields) (s u : State) : Prop where
  | linkResponse (hs : s.tx.state = .outputErrorStopped) (h0 : f.stype0 = s.cfg.stype0LinkResponse)
    (hlr : s.tx.lrPending = false) (hd : (f.param0 - s.tx.ackid).toNat ≤ s.txq.windowSize)
    (hstate : u.tx.state = .linkInitialized) (ha : u.tx.ackid = f.param0) (haw : u.tx.ackidWindow = f.param0)
    (hw : u.txq.windowSize = 0)
  | outputError (hs : s.tx.state = .outputRetryStopped)
    (h0 : f.stype0 = 0#3 ∨ (f.stype0 = 1#3 ∧ f.param0 ≠ s.tx.ackid) ∨ f.stype0 = 2#3)
    (hstate : u.tx.state = .outputErrorStopped) (hlr : u.tx.lrPending = true)

section transmitterStopped

variable {s t u : State} {f : ControlFields} {sym : Symbol}

theorem TxStopped.not_linkInitialized (h : TxStopped s) : s.tx.state ≠ .linkInitialized := by
  rcases h with h | h <;> simp [h]

/-- Acknowledgements are acted on in OUTPUT_RETRY_STOPPED, of the two stopped states (R235 to R237). -/
theorem TxStopped.retry_of_active (h : TxStopped s) (hact : outputActive s = true) :
    s.tx.state = .outputRetryStopped :=
  (outputActive_iff.mp hact).resolve_left h.not_linkInitialized

/-- What takes a stopped transmitter to another state: a valid LINK_RESPONSE, or an output error (R305, R307). -/
theorem Stype0Effect.tx_of_stopped (h : Stype0Effect f s u) (hs : TxStopped s) (hne : u.tx.state ≠ s.tx.state) :
    f.stype1 ≠ stype1Sop ∧ TxRecovery f s u := by
  have hactive : ∀ p1, outputActive (setBufferStatus p1 s) = outputActive s := fun _ => rfl
  cases h with
  | sop => exact absurd rfl hne
  | reserved => exact absurd rfl hne
  | status =>
    refine absurd ?_ hne
    unfold onStatus; split <;> rfl
  | accepted h1 h0 hu =>
    rcases onAccepted_eq_ok hu with ⟨-, rfl⟩ | ⟨-, -, -, q, -, rfl⟩ | ⟨hact, -, rfl⟩
    · exact absurd rfl hne
    · exact absurd rfl hne
    · exact ⟨h1, .outputError (hs.retry_of_active hact) (.inl h0) rfl rfl⟩
  | retry h1 h0 =>
    rcases onRetry_eq (s := setBufferStatus f.param1 s) f.param0 with ⟨-, e⟩ | ⟨hact, -, e⟩ | ⟨hact, ha, e⟩
    · rw [e] at hne; exact absurd rfl hne
    · rw [e] at hne; exact absurd (hs.retry_of_active hact).symm hne
    · rw [e]; exact ⟨h1, .outputError (hs.retry_of_active hact) (.inr (.inl ⟨h0, ha⟩)) rfl rfl⟩
  | notAccepted h1 h0 =>
    unfold onNotAccepted at hne ⊢
    split at hne
    next hact => rw [if_pos hact]; exact ⟨h1, .outputError (hs.retry_of_active hact) (.inr (.inr h0)) rfl rfl⟩
    next => exact absurd rfl hne
  | linkResponse h1 _ hcode hu =>
    rcases onLinkResponse_eq_ok hu with ⟨-, rfl⟩ | ⟨hstop, hlr, hd, q, -, rfl⟩
    · exact absurd rfl hne
    · exact ⟨h1, .linkResponse hstop hcode hlr hd rfl rfl rfl rfl⟩

/-- Of the cases of R220, the RESTART_FROM_RETRY alone changes the state of a stopped transmitter (R228). -/
theorem restart_of_getSymbol (h : getSymbol s = .ok (t, sym)) (hs : TxStopped s) (hne : t.tx.state ≠ s.tx.state) :
    s.tx.state = .outputRetryStopped ∧ (t, sym) = restartSymbol s := by
  have hnot := hs.not_linkInitialized
  have hport : s.tx.state ≠ .portInitialized := by rcases hs with hs | hs <;> simp [hs]
  rcases getSymbol_eq_ok h with ⟨-, rfl, -⟩ | ⟨-, -, e⟩ | ⟨-, -, -, e⟩ | ⟨-, hcases⟩
  · exact absurd rfl hne
  · obtain rfl : t = (mailboxSymbol s).1 := congrArg Prod.fst e
    refine absurd ?_ hne
    unfold mailboxSymbol; split <;> rfl
  · cases e; exact absurd rfl hne
  rcases hcases with ⟨hlink, -⟩ | ⟨-, -, -, e⟩ | ⟨-, -, e⟩ | ⟨hretry, e⟩ | ⟨hp, -⟩ | ⟨hlink, -⟩ | ⟨hlink, -⟩ |
    ⟨-, e⟩ | ⟨-, rfl, -⟩
  · exact absurd hlink hnot
  · cases e; exact absurd rfl hne
  · cases e; exact absurd rfl hne
  · exact ⟨hretry, e⟩
  · exact absurd hp hport
  · exact absurd hlink hnot
  · exact absurd hlink hnot
  · cases e; exact absurd rfl hne
  · exact absurd rfl hne

theorem RcvFrame.tx_state (h : RcvFrame s t) : t.tx.state = s.tx.state := by
  obtain ⟨m, p, htx⟩ := h.tx
  rw [htx]

end transmitterStopped

/-- Settles O16: of the ways an instruction completes, those that write `tx_state` of a stopped transmitter. -/
theorem transmitterLeavesStoppedStatesOnlyBy : Obligations.TransmitterLeavesStoppedStatesOnlyBy := by
  intro i s t hcoupled h hne hs
  obtain ⟨-, -, -, hdown⟩ := hcoupled
  have hup : s.rx.state ≠ .uninitialized := fun hd => by
    have := hdown.mp hd
    rcases hs with hs | hs <;> rw [hs] at this <;> cases this
  cases execEffect_of_exec h with
  | opened => exact .inl ⟨.inl rfl, rfl⟩
  | linkDropped => exact .inl ⟨.inr rfl, rfl⟩
  | timeSet | timeoutSet | refused | enqueued | dequeued | answered => exact absurd rfl hne
  | linkUp => rw [linkUp_of_not_down hup] at hne; exact absurd rfl hne
  | emitted hget =>
    obtain ⟨hretry, e⟩ := restart_of_getSymbol hget hs hne
    cases e
    exact .inr (.inr ⟨hretry, .inl ⟨rfl, rfl, rfl⟩⟩)
  | delivered hi hu =>
    cases symbolEffect_of_addSymbol hu with
    | ignored => exact absurd rfl hne
    | error => exact absurd (rcvFrame_errorSymbol s).tx_state hne
    | data hdata => exact absurd (rcvFrame_of_dataSymbol hdata).tx_state hne
    | badCrc => exact absurd (rcvFrame_badCrcSymbol s).tx_state hne
    | @good f u v hh h0 h1 =>
      obtain ⟨-, hq, -, m, p, htx⟩ := (stype1Effect_of_stype1Code h1).rcvFrame
      have hneus : u.tx.state ≠ s.tx.state := by simpa [htx] using hne
      obtain ⟨hs1, hrecovery⟩ := (stype0Effect_of_stype0Leaves h0).tx_of_stopped hs hneus
      simp only [countUnsupported_tx, countUnsupported_txq, htx, hq]
      cases hrecovery with
      | linkResponse hstop hcode hlr hd hstate ha haw hw =>
        exact .inr (.inl ⟨hstop, f, hi, hh, hs1, hcode, hlr, hd, hstate, ha, haw, hw⟩)
      | outputError hstop hcode hstate hlr =>
        exact .inr (.inr ⟨hstop, .inr ⟨f, hi, hh, hs1, hcode, hstate, hlr⟩⟩)

end Sys2Proof.Machine
end

section
/-!
The two queues (20_memory.md sections 1 to 4, 40_queue.md): what one instruction does to a queue and its buffer
(`InboundStep`, `OutboundStep`), and what that does to the list of packets the queue holds. The back slot is the only one
that anything is written to, and it is none of the occupied ones.
-/

namespace Sys2Proof.Machine

/-! ### The packets of a queue -/

section queuedPackets

variable {cfg : Config} {words : Nat} {q q' : Queue} {mem mem' : Memory}

/-- Every word of every occupied slot reads as before. -/
abbrev OccupiedKept (cfg : Config) (q : Queue) (mem mem' : Memory) : Prop :=
  ∀ j < queueUsed q, ∀ k < cfg.slotWords,
    bufRead mem' (slotBase cfg ((q.frontIndex + j) % q.size) + k) =
      bufRead mem (slotBase cfg ((q.frontIndex + j) % q.size) + k)

/-- Every word outside the back slot reads as before. -/
abbrev OutsideBackKept (cfg : Config) (q : Queue) (mem mem' : Memory) : Prop :=
  ∀ b, (∀ k < cfg.slotWords, b ≠ slotBase cfg q.backIndex + k) → bufRead mem' b = bufRead mem b

/-- The back slot of a queue with a free slot is none of the occupied ones, so writing it leaves them (R61, R133). -/
theorem occupiedKept_of_outsideBackKept (hq : QueueOk cfg words q) (ha : q.available ≠ 0)
    (h : OutsideBackKept cfg q mem mem') : OccupiedKept cfg q mem mem' := by
  obtain ⟨-, hav, -, hi, -⟩ := hq
  obtain ⟨-, hback, -⟩ := hi (by omega)
  intro j hj k hk
  refine h _ fun l hl => slots_disjoint cfg ?_ hk hl
  rw [hback]
  exact back_not_occupied hj (by simp only [queueUsed]; omega)

/-- A write to a word of the back slot. -/
theorem outsideBackKept_bufWrite (hwf : Memory.wf mem) {l : Nat} (hl : l < cfg.slotWords) (v : Word) :
    OutsideBackKept cfg q mem (bufWrite mem (slotBase cfg q.backIndex + l) v) := fun b hb => by
  rw [bufRead_bufWrite mem hwf, if_neg (hb l hl)]

/-- The packet of a slot whose words are as before. -/
theorem storedPacket_congr {i : Nat}
    (h : ∀ k < cfg.slotWords, bufRead mem' (slotBase cfg i + k) = bufRead mem (slotBase cfg i + k))
    (hlen : packetLength cfg mem i ≤ cfg.m) : storedPacket cfg mem' i = storedPacket cfg mem i := by
  have hlength : packetLength cfg mem' i = packetLength cfg mem i := by
    have h0 := h 0 (Nat.succ_pos _)
    rw [Nat.add_zero] at h0
    rw [packetLength, packetLength, h0]
  simp only [storedPacket, hlength]
  refine List.map_congr_left fun k hk => ?_
  have hk := List.mem_range.mp hk
  rw [Nat.add_assoc, h (1 + k) (by simp only [Config.slotWords]; omega)]

/-- A slot's packet, from its length word and its words (R61). -/
theorem storedPacket_eq_of_words {i : Nat} {pkt : Packet} (hlen : packetLength cfg mem i = pkt.length)
    (hwords : ∀ k < pkt.length, bufRead mem (slotBase cfg i + 1 + k) = pkt[k]?) : storedPacket cfg mem i = pkt := by
  refine List.ext_getElem (by rw [storedPacket, List.length_map, List.length_range, hlen]) fun k _ hk => ?_
  simp only [storedPacket, List.getElem_map, List.getElem_range, hwords k hk, List.getElem?_eq_getElem hk,
    Option.getD_some]

theorem packetLength_of_read {i n : Nat} (hread : bufRead mem (slotBase cfg i) = some (BitVec.ofNat 32 n))
    (hn : n < 2 ^ 32) : packetLength cfg mem i = n := by
  simp only [packetLength, hread, BitVec.toNat_ofNat]
  exact Nat.mod_eq_of_lt hn

theorem storedPacket_of_slotPacket {i : Nat} {pkt : Packet} (h : slotPacket cfg q mem i = .ok pkt) :
    storedPacket cfg mem i = pkt := by
  obtain ⟨⟨-, len, hlen, hlength⟩, hwords⟩ := (slotPacket_eq_ok ..).mp h
  exact storedPacket_eq_of_words (by rw [packetLength, hlen, hlength]) fun k hk => (hwords k hk).2

theorem length_queuedPackets : (queuedPackets cfg q mem).length = queueUsed q := by
  rw [queuedPackets, List.length_map, List.length_range]

/-- A queue keeps its packets while its front, its free slots and the words of its occupied slots stay. -/
theorem queuedPackets_congr (hsize : q'.size = q.size) (hav : q'.available = q.available)
    (hfront : q'.frontIndex = q.frontIndex) (hb : BufferOk cfg q mem) (h : OccupiedKept cfg q mem mem') :
    queuedPackets cfg q' mem' = queuedPackets cfg q mem := by
  simp only [queuedPackets, queueUsed, hsize, hav, hfront]
  refine List.map_congr_left fun j hj => ?_
  have hj : j < queueUsed q := List.mem_range.mp hj
  obtain ⟨-, hslots⟩ := hb
  obtain ⟨-, hle, -⟩ := hslots j hj
  exact storedPacket_congr (h j hj) hle

/-- The front has moved on by `d` packets (R130, R238). -/
structure Retired (d : Nat) (q q' : Queue) : Prop where
  size : q'.size = q.size
  available : q'.available = q.available + d
  front : q'.frontIndex = (q.frontIndex + d) % q.size

/-- A queue whose front has moved on holds what was behind. -/
theorem queuedPackets_of_retired {d : Nat} (h : Retired d q q') :
    queuedPackets cfg q' mem = (queuedPackets cfg q mem).drop d := by
  have hused : queueUsed q' = queueUsed q - d := by
    simp only [queueUsed, h.size, h.available]; omega
  refine List.ext_getElem (by simp only [List.length_drop, length_queuedPackets, hused]) fun j _ _ => ?_
  simp only [queuedPackets, List.getElem_drop, List.getElem_map, List.getElem_range, h.size, h.front, front_shift]

/-- Filling the back slot puts a packet behind those the queue holds (R125, R134). -/
theorem queuedPackets_fillBack {pkt : Packet} (hq : QueueOk cfg words q) (hb : BufferOk cfg q mem)
    (ha : q.available ≠ 0)
    (hq' : q' = { q with backIndex := (q.backIndex + 1) % q.size, available := q.available - 1 })
    (hkept : OutsideBackKept cfg q mem mem') (hpkt : storedPacket cfg mem' q.backIndex = pkt) :
    queuedPackets cfg q' mem' = queuedPackets cfg q mem ++ [pkt] := by
  have hkeep := queuedPackets_congr rfl rfl rfl hb (occupiedKept_of_outsideBackKept hq ha hkept)
  obtain ⟨-, hav, -, hi, -⟩ := hq
  obtain ⟨-, hback, -⟩ := hi (by omega)
  have hused : queueUsed q' = queueUsed q + 1 := by
    subst hq'; simp only [queueUsed]; omega
  rw [← hkeep, ← hpkt, hback, queuedPackets, hused, List.range_succ, List.map_append]
  subst hq'
  rfl

/-- The front packet is the first of the queue's packets (R126). -/
theorem queuedPackets_eq_front_cons {pkt : Packet} (hq : QueueOk cfg words q)
    (h : frontPacket cfg q mem = .ok pkt) : queuedPackets cfg q mem = pkt :: (queuedPackets cfg q mem).drop 1 := by
  unfold frontPacket at h
  split at h
  · cases h
  · rename_i hu
    obtain ⟨-, -, -, hi, -⟩ := hq
    obtain ⟨hfront, -, -⟩ := hi (size_pos_of_used hu)
    have hlt : 0 < (queuedPackets cfg q mem).length := by rw [length_queuedPackets]; omega
    have hhead : (queuedPackets cfg q mem)[0] = pkt := by
      simp only [queuedPackets, List.getElem_map, List.getElem_range, Nat.add_zero, Nat.mod_eq_of_lt hfront]
      exact storedPacket_of_slotPacket h
    rw [← hhead]
    exact List.drop_eq_getElem_cons hlt

end queuedPackets

/-! ### What an instruction does to the inbound queue -/

/-- The packet in progress, whole and with residue 0, is put behind the packets of the inbound queue (R186, R194). -/
structure Committed (s t : State) : Prop where
  receiving : s.rx.receiving = true
  counter : s.rx.counter ≠ 0
  crc : s.rx.crc = 0#16
  back : commitBack s.cfg s.rxq s.rxbuf s.rx.counter = .ok (t.rxq, t.rxbuf)

/-- The inbound queue and `RXBUF` are as before. -/
abbrev RxqKept (s t : State) : Prop := t.rxq = s.rxq ∧ t.rxbuf = s.rxbuf

section committed

variable {s t u v : State} {f : ControlFields}

theorem committed_or_kept_of_onEop (h : onEop s = .ok t) : RxqKept s t ∨ Committed s t := by
  rcases onEop_eq_ok h with ⟨-, rfl⟩ | ⟨-, -, rfl⟩ | ⟨-, -, -, -, rfl⟩ | ⟨-, hr, hc, hz, hcommit⟩
  · exact .inl ⟨rfl, rfl⟩
  · exact .inl ⟨rfl, rfl⟩
  · exact .inl ⟨rfl, rfl⟩
  · obtain ⟨q, mem, hq, rfl⟩ := commitPacket_eq_ok hcommit
    exact .inr ⟨hr, hc, hz, hq⟩

theorem rxqKept_startPacket (a : Field5) (s : State) : RxqKept s (startPacket a s) := by
  rcases startPacket_eq (s := s) a with ⟨-, e⟩ | ⟨-, -, e⟩ | ⟨-, -, e⟩ <;> rw [e] <;> exact ⟨rfl, rfl⟩

/-- An SOP commits the packet that it ends, and no other (R184). -/
theorem committed_or_kept_of_onSop {a : Field5} (h : onSop a s = .ok t) : RxqKept s t ∨ Committed s t := by
  rcases onSop_eq_ok h with ⟨-, rfl⟩ | ⟨-, -, rfl⟩ | ⟨-, -, v, hv, ⟨-, rfl⟩ | ⟨-, rfl⟩⟩
  · exact .inl ⟨rfl, rfl⟩
  · exact .inl (rxqKept_startPacket a s)
  · exact committed_or_kept_of_onEop hv
  · obtain ⟨hq, hb⟩ := rxqKept_startPacket a v
    rcases committed_or_kept_of_onEop hv with ⟨hqv, hbv⟩ | ⟨hr, hc, hz, hback⟩
    · exact .inl ⟨hq.trans hqv, hb.trans hbv⟩
    · exact .inr ⟨hr, hc, hz, by rw [hback, hq, hb]⟩

theorem Stype1Effect.committed_or_kept (h : Stype1Effect f u v) :
    RxqKept u v ∨ (f.stype1 = stype1Eop ∨ f.stype1 = stype1Sop) ∧ Committed u v := by
  cases h with
  | sop h1 hv => exact (committed_or_kept_of_onSop hv).imp_right fun h => ⟨.inr h1, h⟩
  | eop h1 hv => exact (committed_or_kept_of_onEop hv).imp_right fun h => ⟨.inl h1, h⟩
  | stomp => refine .inl ?_; unfold onStomp; split <;> exact ⟨rfl, rfl⟩
  | restart => refine .inl ?_; unfold onRestartFromRetry; split <;> exact ⟨rfl, rfl⟩
  | linkRequest => refine .inl ?_; unfold onLinkRequest; split <;> exact ⟨rfl, rfl⟩
  | none => exact .inl ⟨rfl, rfl⟩

/-- What the stype0 half leaves of the packet in progress: all of it (R176). -/
theorem Stype0Effect.inbound (h : Stype0Effect f s u) :
    u.cfg = s.cfg ∧ RxqKept s u ∧ u.rx.receiving = s.rx.receiving ∧ u.rx.counter = s.rx.counter ∧
      u.rx.crc = s.rx.crc := by
  obtain ⟨-, hq, hb, -, -, hrx⟩ := h.ackFrame
  rw [withBufStatusOf_rxq] at hq
  rw [withBufStatusOf_rxbuf] at hb
  rw [withBufStatusOf_rx] at hrx
  refine ⟨h.partFrame.cfg, ⟨hq, hb⟩, ?_⟩
  rcases hrx with hrx | ⟨-, hrx⟩ <;> rw [hrx] <;> exact ⟨rfl, rfl, rfl⟩

end committed

/-- What an instruction does to the inbound queue and `RXBUF`. -/
inductive InboundStep (s t : State) : Instr → Prop where
  | kept {i : Instr} (h : RxqKept s t) : InboundStep s t i
  | staged {i : Instr} {w : Word} (hi : deliveredSymbol i = some (.data w)) (hc : s.rx.counter ≠ s.cfg.m)
    (hst : stageWord s.cfg s.rxq s.rxbuf s.rx.counter w = .ok t.rxbuf) (hq : t.rxq = s.rxq) : InboundStep s t i
  | committed {i : Instr} {f : ControlFields} (hi : deliveredSymbol i = some (.control (bodyOf f))) (hh : Heard f s)
    (h1 : f.stype1 = stype1Eop ∨ f.stype1 = stype1Sop) (h : Committed s t) : InboundStep s t i
  | taken (hp : frontPacket s.cfg s.rxq s.rxbuf = .ok t.response.pkt) (hq : popFront s.rxq = .ok t.rxq)
    (hb : t.rxbuf = s.rxbuf) : InboundStep s t .getInboundPacket
  | opened (hb : t.rxbuf = s.rxbuf) : InboundStep s t .openOp

theorem inboundStep_of_exec {i : Instr} {s t : State} (h : exec i s = .next t) : InboundStep s t i := by
  cases execEffect_of_exec h with
  | opened => exact .opened rfl
  | timeSet | timeoutSet | linkDropped | refused | enqueued | answered => exact .kept ⟨rfl, rfl⟩
  | linkUp => refine .kept ?_; unfold linkUp; split <;> exact ⟨rfl, rfl⟩
  | dequeued hp hq => exact .taken hp hq rfl
  | emitted hget =>
    have hframe := emitFrame_of_getSymbol hget
    exact .kept ⟨hframe.rxq, hframe.rxbuf⟩
  | delivered hi hu =>
    cases symbolEffect_of_addSymbol hu with
    | ignored => exact .kept ⟨rfl, rfl⟩
    | error => refine .kept ?_; unfold errorSymbol; split <;> exact ⟨rfl, rfl⟩
    | badCrc => refine .kept ?_; unfold badCrcSymbol; split <;> exact ⟨rfl, rfl⟩
    | data hdata =>
      rcases dataSymbol_eq_ok hdata with ⟨-, rfl⟩ | ⟨-, -, rfl⟩ | ⟨-, -, hc, mem, hst, rfl⟩
      · exact .kept ⟨rfl, rfl⟩
      · exact .kept ⟨rfl, rfl⟩
      · exact .staged hi hc hst rfl
    | @good f u v hh h0 h1 =>
      obtain ⟨hcfg, ⟨hq, hb⟩, hr, hc, hz⟩ := (stype0Effect_of_stype0Leaves h0).inbound
      have hqv : (countUnsupported f v).rxq = v.rxq := countUnsupported_rxq f v
      have hbv : (countUnsupported f v).rxbuf = v.rxbuf := countUnsupported_rxbuf f v
      rcases (stype1Effect_of_stype1Code h1).committed_or_kept with ⟨hq', hb'⟩ | ⟨h1, hr', hc', hz', hback⟩
      · exact .kept ⟨hqv.trans (hq'.trans hq), hbv.trans (hb'.trans hb)⟩
      · refine .committed hi hh h1 ⟨hr ▸ hr', hc ▸ hc', hz ▸ hz', ?_⟩
        rw [← hcfg, ← hq, ← hb, ← hc, hback]
        exact congrArg Except.ok (Prod.ext hqv.symm hbv.symm)

/-! ### What an instruction does to the outbound queue -/

/-- The slots of a queue are as before: its window may have moved. -/
abbrev SameSlots (q q' : Queue) : Prop :=
  q'.size = q.size ∧ q'.available = q.available ∧ q'.frontIndex = q.frontIndex

theorem RcvFrame.sameSlots {s t : State} (h : RcvFrame s t) : SameSlots s.txq t.txq := by
  rw [h.txq]; exact ⟨rfl, rfl, rfl⟩

theorem EmitFrame.sameSlots {s t : State} (h : EmitFrame s t) : SameSlots s.txq t.txq := by
  obtain ⟨j, w, hq⟩ := h.txq
  rw [hq]; exact ⟨rfl, rfl, rfl⟩

/-- Why a control symbol retires `d` packets: a good ACC of the oldest, or a good LINK_RESPONSE (R235, R238). -/
abbrev RetiresFor (d : Nat) (f : ControlFields) (s : State) : Prop :=
  (f.stype0 = 0#3 ∧ f.param0 = s.tx.ackid ∧ d = 1) ∨
    (f.stype0 = s.cfg.stype0LinkResponse ∧ d = (f.param0 - s.tx.ackid).toNat)

/-- The stype0 half of a symbol keeps the slots of the outbound queue, or retires packets of the window. -/
theorem Stype0Effect.outbound {f : ControlFields} {s u : State} (h : Stype0Effect f s u) :
    SameSlots s.txq u.txq ∨ ∃ d ≤ s.txq.windowSize, f.stype1 ≠ stype1Sop ∧ RetiresFor d f s ∧ Retired d s.txq u.txq := by
  cases h with
  | sop | reserved => exact .inl ⟨rfl, rfl, rfl⟩
  | status => refine .inl ?_; unfold onStatus; split <;> exact ⟨rfl, rfl, rfl⟩
  | notAccepted => refine .inl ?_; unfold onNotAccepted; split <;> exact ⟨rfl, rfl, rfl⟩
  | retry =>
    refine .inl ?_
    rcases onRetry_eq (s := setBufferStatus f.param1 s) f.param0 with ⟨-, e⟩ | ⟨-, -, e⟩ | ⟨-, -, e⟩ <;>
      rw [e] <;> exact ⟨rfl, rfl, rfl⟩
  | accepted h1 h0 hu =>
    rcases onAccepted_eq_ok hu with ⟨-, rfl⟩ | ⟨-, ha, hw, q, hq, rfl⟩ | ⟨-, -, rfl⟩
    · exact .inl ⟨rfl, rfl, rfl⟩
    · obtain ⟨-, rfl⟩ := (popFront_eq_ok ..).mp hq
      exact .inr ⟨1, hw, h1, .inl ⟨h0, ha, rfl⟩, rfl, rfl, rfl⟩
    · exact .inl ⟨rfl, rfl, rfl⟩
  | linkResponse h1 _ hcode hu =>
    rcases onLinkResponse_eq_ok hu with ⟨-, rfl⟩ | ⟨-, -, hd, q, hq, rfl⟩
    · exact .inl ⟨rfl, rfl, rfl⟩
    · rcases (popFrontMany_eq_ok ..).mp hq with ⟨-, rfl⟩ | ⟨-, -, rfl⟩
      · exact .inl ⟨rfl, rfl, rfl⟩
      · exact .inr ⟨_, hd, h1, .inr ⟨hcode, rfl⟩, rfl, rfl, rfl⟩

/-- What an instruction does to the outbound queue and `TXBUF`. -/
inductive OutboundStep (s t : State) : Instr → Prop where
  | kept {i : Instr} (hi : ∀ pkt, i = .setOutboundPacket pkt → t.response.result = 0#32)
    (hq : SameSlots s.txq t.txq) (hb : t.txbuf = s.txbuf) : OutboundStep s t i
  | retired {i : Instr} {f : ControlFields} {d : Nat} (hi : deliveredSymbol i = some (.control (bodyOf f)))
    (hh : Heard f s) (h1 : f.stype1 ≠ stype1Sop) (hd : d ≤ s.txq.windowSize) (hf : RetiresFor d f s)
    (hq : Retired d s.txq t.txq) (hb : t.txbuf = s.txbuf) : OutboundStep s t i
  | enqueued {pkt : Packet} (hlen : pkt.length ≤ s.cfg.m) (hr : t.response.result = 1#32)
    (h : pushBack s.cfg s.txq s.txbuf pkt = .ok (t.txq, t.txbuf)) : OutboundStep s t (.setOutboundPacket pkt)
  | opened (hb : t.txbuf = s.txbuf) : OutboundStep s t .openOp

/-- An instruction that delivers a symbol enqueues no packet. -/
theorem ne_setOutboundPacket_of_delivered {i : Instr} {sym : Symbol} (hi : deliveredSymbol i = some sym)
    (pkt : Packet) : i ≠ .setOutboundPacket pkt := by
  rintro rfl
  cases hi

theorem outboundStep_of_exec {i : Instr} {s t : State} (h : exec i s = .next t) : OutboundStep s t i := by
  cases execEffect_of_exec h with
  | opened => exact .opened rfl
  | timeSet | timeoutSet | linkDropped => exact .kept (by simp) ⟨rfl, rfl, rfl⟩ rfl
  | dequeued => exact .kept (by simp) ⟨rfl, rfl, rfl⟩ rfl
  | refused => exact .kept (fun _ _ => rfl) ⟨rfl, rfl, rfl⟩ rfl
  | answered hi => exact .kept (fun pkt e => absurd e (hi pkt)) ⟨rfl, rfl, rfl⟩ rfl
  | linkUp =>
    unfold linkUp
    split <;> exact .kept (by simp) ⟨rfl, rfl, rfl⟩ rfl
  | enqueued hlen hpush => exact .enqueued hlen rfl hpush
  | emitted hget =>
    have hframe := emitFrame_of_getSymbol hget
    exact .kept (by simp) hframe.sameSlots hframe.txbuf
  | delivered hi hu =>
    have hne := ne_setOutboundPacket_of_delivered hi
    have kept_of_rcvFrame : ∀ {v r}, RcvFrame s v → OutboundStep s { v with response := r } i := fun hframe =>
      .kept (fun pkt e => absurd e (hne pkt)) hframe.sameSlots hframe.txbuf
    cases symbolEffect_of_addSymbol hu with
    | ignored => exact kept_of_rcvFrame (.refl s)
    | error => exact kept_of_rcvFrame (rcvFrame_errorSymbol s)
    | badCrc => exact kept_of_rcvFrame (rcvFrame_badCrcSymbol s)
    | data hdata => exact kept_of_rcvFrame (rcvFrame_of_dataSymbol hdata)
    | @good f u v hh h0 h1 =>
      have heffect0 := stype0Effect_of_stype0Leaves h0
      have hframe1 := (stype1Effect_of_stype1Code h1).rcvFrame
      have hq : (countUnsupported f v).txq = u.txq := (countUnsupported_txq f v).trans hframe1.txq
      have hb : (countUnsupported f v).txbuf = s.txbuf := by
        rw [countUnsupported_txbuf, hframe1.txbuf, heffect0.ackFrame.txbuf, withBufStatusOf_txbuf]
      rcases heffect0.outbound with hsame | ⟨d, hd, hs1, hf, hret⟩
      · exact .kept (fun pkt e => absurd e (hne pkt)) (by rw [← hq] at hsame; exact hsame) hb
      · exact .retired hi hh hs1 hd hf (by rw [← hq] at hret; exact hret) hb

/-! ### The buffers -/

/-- Settles O21: of the ways to treat a queue, those that write its buffer. -/
theorem onlyTheirWritersChangeTheBuffers : Obligations.OnlyTheirWritersChangeTheBuffers := by
  intro i s t h
  refine ⟨fun hne => ?txbuf, fun hne => ?rxbuf⟩
  case txbuf =>
    cases outboundStep_of_exec h with
    | kept _ _ hb | retired _ _ _ _ _ _ hb | opened hb => exact absurd hb hne
    | @enqueued pkt => exact ⟨pkt, rfl⟩
  case rxbuf =>
    cases inboundStep_of_exec h with
    | kept hkept => exact absurd hkept.2 hne
    | taken _ _ hb | opened hb => exact absurd hb hne
    | staged hi => exact .inl ⟨_, hi⟩
    | committed hi hh h1 hc => exact .inr ⟨_, hi, hh, h1, hc.receiving, hc.crc⟩

section occupied

variable {i : Instr} {s t : State}

/-- A commit writes the length word of the back slot alone (R134). -/
theorem Committed.outsideBackKept (hwf : Memory.wf s.rxbuf) (h : Committed s t) :
    OutsideBackKept s.cfg s.rxq s.rxbuf t.rxbuf := by
  obtain ⟨-, -, hb, -⟩ := (commitBack_eq_ok ..).mp h.back
  rw [hb]
  exact outsideBackKept_bufWrite (l := 0) hwf (Nat.succ_pos _) _

/-- `push_back` writes the back slot alone (R125). -/
theorem outsideBackKept_of_pushBack {cfg : Config} {q q' : Queue} {mem mem' : Memory} {pkt : Packet}
    (hwf : Memory.wf mem) (hlen : pkt.length ≤ cfg.m) (h : pushBack cfg q mem pkt = .ok (q', mem')) :
    OutsideBackKept cfg q mem mem' := by
  obtain ⟨-, -, -, hread⟩ := pushBack_ok cfg q q' mem mem' hwf pkt h
  intro b hb
  rw [hread, if_neg]
  rintro ⟨hle, hlt⟩
  exact hb (b - slotBase cfg q.backIndex) (by simp only [Config.slotWords]; omega) (by omega)

theorem InboundStep.occupiedKept (hinv : Inv s) (h : InboundStep s t i) :
    OccupiedKept s.cfg s.rxq s.rxbuf t.rxbuf := by
  obtain ⟨-, hrx, -, -⟩ := inv_iff.mp hinv
  have hwf : Memory.wf s.rxbuf := hrx.buffer.1
  cases h with
  | kept h => intro j _ k _; rw [h.2]
  | taken _ _ hb | opened hb => intro j _ k _; rw [hb]
  | staged _ hc hst =>
    obtain ⟨hav, -, hb⟩ := (stageWord_eq_ok ..).mp hst
    have hlt : 1 + s.rx.counter < s.cfg.slotWords := by
      have := lt_of_le_of_ne hrx.counter_le hc
      simp only [Config.slotWords]; omega
    rw [hb, stageAddress, Nat.add_assoc]
    exact occupiedKept_of_outsideBackKept hrx.queue hav (outsideBackKept_bufWrite hwf hlt _)
  | committed _ _ _ hc =>
    obtain ⟨hav, -⟩ := (commitBack_eq_ok ..).mp hc.back
    exact occupiedKept_of_outsideBackKept hrx.queue hav (hc.outsideBackKept hwf)

theorem OutboundStep.occupiedKept (hinv : Inv s) (h : OutboundStep s t i) :
    OccupiedKept s.cfg s.txq s.txbuf t.txbuf := by
  obtain ⟨-, -, htx, -⟩ := inv_iff.mp hinv
  cases h with
  | kept _ _ hb | retired _ _ _ _ _ _ hb | opened hb => intro j _ k _; rw [hb]
  | enqueued hlen _ hpush =>
    have hwf : Memory.wf s.txbuf := htx.buffer.1
    obtain ⟨hav, -⟩ := pushBack_ok _ _ _ _ _ hwf _ hpush
    exact occupiedKept_of_outsideBackKept htx.queue hav (outsideBackKept_of_pushBack hwf hlen hpush)

end occupied

/-- Settles O22: whatever an instruction writes is in the back slot of a queue with a free slot. -/
theorem occupiedSlotsKeepTheirWords : Obligations.OccupiedSlotsKeepTheirWords :=
  fun _ _ _ hinv h => ⟨(inboundStep_of_exec h).occupiedKept hinv, (outboundStep_of_exec h).occupiedKept hinv⟩

/-! ### First in, first out -/

/-- The packet put into the outbound queue stands behind those it holds (R125, R276). -/
theorem queuedPackets_of_pushBack {cfg : Config} {words : Nat} {q q' : Queue} {mem mem' : Memory} {pkt : Packet}
    (hq : QueueOk cfg words q) (hb : BufferOk cfg q mem) (hm : cfg.m < 2 ^ 32) (hlen : pkt.length ≤ cfg.m)
    (h : pushBack cfg q mem pkt = .ok (q', mem')) :
    queuedPackets cfg q' mem' = queuedPackets cfg q mem ++ [pkt] := by
  have hwf : Memory.wf mem := hb.1
  obtain ⟨hav, -, -, -⟩ := pushBack_ok _ _ _ _ _ hwf _ h
  obtain ⟨mem'', hpush, hlength, hwords, -⟩ := pushBack_of_fits hwf hav (backIndex_lt hq hav) hlen
  rw [h] at hpush
  cases hpush
  have hstored : storedPacket cfg mem' q.backIndex = pkt :=
    storedPacket_eq_of_words (packetLength_of_read hlength (by omega)) hwords
  exact queuedPackets_fillBack hq hb hav rfl (outsideBackKept_of_pushBack hwf hlen h) hstored

/-- A committed packet is the words staged, behind the packets of the inbound queue (R134, R194). -/
theorem Committed.queuedPackets {s t : State} (hinv : Inv s) (h : Committed s t) :
    queuedPackets s.cfg t.rxq t.rxbuf = queuedPackets s.cfg s.rxq s.rxbuf ++ [stagedPacket s] := by
  obtain ⟨hm, hrx, -, -⟩ := inv_iff.mp hinv
  have hwf : Memory.wf s.rxbuf := hrx.buffer.1
  have hkept := h.outsideBackKept hwf
  obtain ⟨hav, -, hb, hq⟩ := (commitBack_eq_ok ..).mp h.back
  have hle := hrx.counter_le
  have hread := bufRead_bufWrite s.rxbuf hwf (slotBase s.cfg s.rxq.backIndex)
  have hlength : packetLength s.cfg t.rxbuf s.rxq.backIndex = s.rx.counter :=
    packetLength_of_read (by rw [hb, hread, if_pos rfl]) (by omega)
  have hstored : storedPacket s.cfg t.rxbuf s.rxq.backIndex = stagedPacket s := by
    rw [storedPacket, hlength]
    refine List.map_congr_left fun k _ => ?_
    rw [hb, hread, if_neg (by omega), stageAddress]
  exact queuedPackets_fillBack hrx.queue hrx.buffer hav hq hkept hstored

/-- Settles O24: of the ways to treat the inbound queue, one adds a packet and one takes the front. -/
theorem inboundQueueIsFirstInFirstOut : Obligations.InboundQueueIsFirstInFirstOut := by
  intro i s t hinv hi h
  obtain ⟨-, hrx, -, -⟩ := inv_iff.mp hinv
  have hstep := inboundStep_of_exec h
  have hkept := hstep.occupiedKept hinv
  rw [(exec_cfg_pending h).1]
  cases hstep with
  | opened => exact absurd rfl hi
  | kept h => exact .inr (.inl (by rw [h.1, h.2]))
  | staged _ _ _ hq => exact .inr (.inl (by rw [hq]; exact queuedPackets_congr rfl rfl rfl hrx.buffer hkept))
  | committed hi hh h1 hc =>
    exact .inr (.inr ⟨_, hi, hh, h1, hc.receiving, hc.counter, hc.crc, hc.queuedPackets hinv⟩)
  | taken hp hq hb =>
    obtain ⟨hu, hq'⟩ := (popFront_eq_ok ..).mp hq
    have hret : Retired 1 s.rxq t.rxq := by rw [hq']; exact ⟨rfl, rfl, rfl⟩
    refine .inl ⟨rfl, hu, ?_⟩
    rw [hb, queuedPackets_of_retired hret, ← queuedPackets_eq_front_cons hrx.queue hp]

/-- Settles O23: of the ways to treat the outbound queue, one adds a packet and one retires the oldest. -/
theorem outboundQueueIsFirstInFirstOut : Obligations.OutboundQueueIsFirstInFirstOut := by
  intro i s t hinv hi h
  obtain ⟨hm, -, htx, -⟩ := inv_iff.mp hinv
  rw [(exec_cfg_pending h).1]
  cases outboundStep_of_exec h with
  | opened => exact absurd rfl hi
  | kept hresp hq hb =>
    obtain ⟨hsize, hav, hfront⟩ := hq
    refine ⟨0, Nat.zero_le _, fun h0 => absurd rfl h0, .inr ⟨hresp, ?_⟩⟩
    rw [hb, List.drop_zero]
    exact queuedPackets_congr hsize hav hfront htx.buffer fun _ _ _ _ => rfl
  | @retired i f d hi hh h1 hd hf hq hb =>
    refine ⟨d, hd, fun _ => ⟨f, hi, hh, h1, hf⟩, .inr ⟨fun pkt e => absurd e (ne_setOutboundPacket_of_delivered hi pkt), ?_⟩⟩
    rw [hb, queuedPackets_of_retired hq]
  | @enqueued pkt hlen hresp hpush =>
    exact ⟨0, Nat.zero_le _, fun h0 => absurd rfl h0,
      .inl ⟨pkt, rfl, hresp, queuedPackets_of_pushBack htx.queue htx.buffer hm hlen hpush⟩⟩

end Sys2Proof.Machine
end

section
/-!
The order of the two halves of a control symbol (R176), and the codes of the stype0 half that the parameters name (R182,
R238, R177).
-/

namespace Sys2Proof.Machine

variable {s t u : State} {f : ControlFields}

/-! ### The order of the halves -/

/-- The rest of a symbol behind its stype0 half reads no response. -/
theorem runStype1_response (f : ControlFields) (u : State) (r : Response) :
    runStype1 f { u with response := r } = runStype1 f u := by
  have hhalf : stype1Code f { u with response := r } = _ := relabel_stype1Code ⟨id, id, fun _ => r⟩ u f
  rw [runStype1, runStype1, hhalf]
  cases stype1Code f u with
  | error e => rfl
  | ok v =>
    have hcount := congrArg (respond Response.plain) (relabel_countUnsupported ⟨id, id, fun _ => r⟩ v f)
    exact hcount

/-- The rest of a symbol behind its stype0 half is decided by its stype1, its cmd, param0 of an SOP, and whether its
stype0 is supported. -/
theorem runStype1_congr {f g : ControlFields} (h1 : g.stype1 = f.stype1) (hsop : f.stype1 ≠ stype1Sop)
    (hcmd : g.cmd = f.cmd) (hf : stype0Unsupported u.cfg f.stype0 = false)
    (hg : stype0Unsupported u.cfg g.stype0 = false) : runStype1 g u = runStype1 f u := by
  have hhalf : stype1Code g u = stype1Code f u := by
    rw [stype1Code, stype1Code, h1, hcmd, if_neg hsop, if_neg hsop]
  rw [runStype1, runStype1, hhalf]
  cases hv : stype1Code f u with
  | error e => rfl
  | ok v =>
    have hcfg : v.cfg = u.cfg := (stype1Effect_of_stype1Code hv).rcvFrame.cfg
    have hcount : countUnsupported g v = countUnsupported f v := by
      rw [countUnsupported, countUnsupported, unsupported, unsupported, hcfg, h1, hcmd, hf, hg]
    exact congrArg (respond Response.plain) hcount

/-- With the default code of LINK_RESPONSE, every code but 3, 6 and 7 is supported (R93). -/
theorem stype0_supported_of_default {cfg : Config} (hcfg : cfg.stype0LinkResponse = 5#3) {code : Field3}
    (h3 : code ≠ 3#3) (h6 : code ≠ 6#3) (h7 : code ≠ 7#3) : stype0Unsupported cfg code = false := by
  refine Bool.eq_false_iff.mpr fun h => ?_
  rcases (stype0Unsupported_iff_of_default hcfg code).mp h with h | h | h
  · exact h3 h
  · exact h6 h
  · exact h7 h

/-- The stype0 half of a symbol that is no SOP is decided by its stype0 and its params (R176). -/
theorem Stype0Leaves.congr {f g : ControlFields} (h : Stype0Leaves g s u) (hg : g.stype1 ≠ stype1Sop)
    (hf : f.stype1 ≠ stype1Sop) (h0 : f.stype0 = g.stype0) (hp0 : f.param0 = g.param0) (hp1 : f.param1 = g.param1) :
    Stype0Leaves f s u := by
  rw [Stype0Leaves, stype0Step_half hg, stype0Code] at h
  rwa [Stype0Leaves, stype0Step_half hf, stype0Code, h0, hp0, hp1]

/-- The fields of a built symbol (R152). -/
theorem exists_controlSymbolOf_eq (s0 : Field3) (p0 p1 : Field5) (s1 cmd : Field3) :
    ∃ crc, controlSymbolOf s0 p0 p1 s1 cmd = bodyOf ⟨s0, p0, p1, s1, cmd, crc⟩ := ⟨_, rfl⟩

/-- A built symbol is heard in a port that is up (R171, R175). -/
theorem heard_of_controlSymbolOf {crc : Field5} {s0 : Field3} {p0 p1 : Field5} {s1 cmd : Field3}
    (hc : controlSymbolOf s0 p0 p1 s1 cmd = bodyOf ⟨s0, p0, p1, s1, cmd, crc⟩) (hup : s.rx.state ≠ .uninitialized) :
    Heard ⟨s0, p0, p1, s1, cmd, crc⟩ s := ⟨hup, by rw [← hc]; exact crcGood_controlSymbolOf ..⟩

/-- A STATUS that repeats `tx_buffer_status`, and does not initialize the link, has no stype0 effect (R181). -/
theorem stype0Leaves_repeatedStatus {f : ControlFields} (h0 : f.stype0 = stype0Status) (h1 : f.stype1 ≠ stype1Sop)
    (hp1 : f.param1 = s.tx.bufferStatus) (hidle : s.rx.state ≠ .portInitialized ∨ f.param0 ≠ s.tx.ackid) :
    Stype0Leaves f s s := by
  have hcode : stype0Code f s = statusHalf f.param0 f.param1 s := by rw [stype0Code, h0]; rfl
  have hbs : setBufferStatus f.param1 s = s := by rw [hp1]; rfl
  refine stype0Leaves_of_code h1 (hcode.trans ?_)
  rw [statusHalf, hbs, onStatus, if_neg]
  rintro ⟨hport, ha⟩
  exact hidle.elim (fun h => h hport) fun h => h ha

/-- Settles O39: behind the stype0 half, which the first symbol does alone, the second symbol's own stype0 half has no
effect, and the stype1 halves are the same. -/
theorem halvesAreProcessedInOrder : Obligations.HalvesAreProcessedInOrder := by
  intro f a s t hh h1 h3 h6 h7 hcode hfirst hidle
  obtain ⟨crc, hc⟩ := exists_controlSymbolOf_eq f.stype0 f.param0 f.param1 7#3 0#3
  obtain ⟨crc', hc'⟩ := exists_controlSymbolOf_eq 4#3 a t.tx.bufferStatus f.stype1 f.cmd
  rw [hc] at hfirst
  have hheard := heard_of_controlSymbolOf hc hh.1
  obtain ⟨u, -, hu, -⟩ := halves_of_exec rfl hheard hfirst
  obtain ⟨hcfg, -, -, hkeepsUp⟩ := receiverFrame_of_stype0Leaves hu
  have hsupported : stype0Unsupported u.cfg f.stype0 = false :=
    stype0_supported_of_default (by rw [hcfg, hcode]) h3 h6 h7
  have hnop : (7#3 : Field3) ≠ stype1Sop := by decide
  have hleaves : Stype0Leaves f s u := Stype0Leaves.congr hu hnop h1 rfl rfl rfl
  rw [exec_of_stype0Leaves rfl hheard hu] at hfirst
  have ht : t = { u with response := ⟨0#32, .idle, []⟩ } :=
    Host.Outcome.next.inj (hfirst.symm.trans (runStype1_eventOrNop hsupported (.inr rfl)))
  have hup : t.rx.state ≠ .uninitialized := by rw [ht]; exact hkeepsUp hh.1
  have hsecond : Stype0Leaves ⟨4#3, a, t.tx.bufferStatus, f.stype1, f.cmd, crc'⟩ t t :=
    stype0Leaves_repeatedStatus rfl h1 rfl hidle
  have hsame : runStype1 ⟨4#3, a, t.tx.bufferStatus, f.stype1, f.cmd, crc'⟩ u = runStype1 f u :=
    runStype1_congr rfl h1 rfl hsupported (stype0Unsupported_eq_false (.inr (.inr (.inr rfl))))
  rw [exec_of_stype0Leaves rfl hh hleaves, hc', exec_of_stype0Leaves rfl (heard_of_controlSymbolOf hc' hup) hsecond,
    ← hsame]
  conv_rhs => rw [ht]
  exact (runStype1_response ⟨4#3, a, t.tx.bufferStatus, f.stype1, f.cmd, crc'⟩ u _).symm

/-! ### The codes of LINK_RESPONSE -/

/-- The rows of the codes that are none of ACC, RETRY, NACC and STATUS, each with its code (R86). -/
abbrev OtherStype0Row (code : Field3) (p0 p1 : Field5) (s1 cmd : Field3) (crc : Field5) (i : Instr) : Prop :=
  (code = 5#3 ∧ i = .linkResponse p0 p1 s1 cmd crc) ∨ (code = 3#3 ∧ i = .stype0Reserved3 p0 p1 s1 cmd crc) ∨
    (code = 6#3 ∧ i = .stype0Reserved6 p0 p1 s1 cmd crc) ∨ (code = 7#3 ∧ i = .stype0Reserved7 p0 p1 s1 cmd crc)

section otherCodes

variable {code : Field3} {p0 p1 : Field5} {s1 cmd : Field3} {crc : Field5} {i : Instr}

theorem deliveredSymbol_otherRow (h : OtherStype0Row code p0 p1 s1 cmd crc i) :
    deliveredSymbol i = some (.control (bodyOf ⟨code, p0, p1, s1, cmd, crc⟩)) := by
  rcases h with ⟨rfl, rfl⟩ | ⟨rfl, rfl⟩ | ⟨rfl, rfl⟩ | ⟨rfl, rfl⟩ <;> rfl

theorem not_ackCode_of_otherRow (h : OtherStype0Row code p0 p1 s1 cmd crc i) :
    code ∉ [stype0Acc, stype0Retry, stype0Nacc, stype0Status] := by
  rcases h with ⟨rfl, -⟩ | ⟨rfl, -⟩ | ⟨rfl, -⟩ | ⟨rfl, -⟩ <;> decide

end otherCodes

/-- The stype0 half of a code that is none of ACC, RETRY, NACC and STATUS (R177, R182). -/
theorem stype0Code_otherCode (h : f.stype0 ∉ [stype0Acc, stype0Retry, stype0Nacc, stype0Status]) :
    stype0Code f s = if f.stype0 = s.cfg.stype0LinkResponse then onLinkResponse f.param0 s else .ok s := by
  simp only [List.mem_cons, List.not_mem_nil, or_false, not_or] at h
  obtain ⟨hacc, hretry, hnacc, hstatus⟩ := h
  rw [stype0Code, if_neg hacc, if_neg hretry, if_neg hnacc, if_neg hstatus]
  rfl

/-- The code that the parameter names is supported (R93). -/
theorem stype0Unsupported_linkResponse (cfg : Config) : stype0Unsupported cfg cfg.stype0LinkResponse = false := by
  simp [stype0Unsupported]

/-- A valid LINK_RESPONSE retires `d` packets at once and rewinds the window (R238, D60). -/
theorem onLinkResponse_of_valid {a : Field5} (hs : s.tx.state = .outputErrorStopped) (hlr : s.tx.lrPending = false)
    (hd : deliveredCount a s ≤ s.txq.windowSize) (hq : QueueOk s.cfg s.cfg.txWords s.txq) :
    onLinkResponse a s = .ok (inc .outboundRetry (incBy .outboundComplete (deliveredCount a s) { s with
      tx := { s.tx with ackid := a, ackidWindow := a, state := .linkInitialized, frameState := .start, counter := 0 }
      txq := { s.txq with
        frontIndex := (s.txq.frontIndex + deliveredCount a s) % s.txq.size
        available := s.txq.available + deliveredCount a s
        windowIndex := (s.txq.frontIndex + deliveredCount a s) % s.txq.size
        windowSize := 0 } })) := by
  obtain ⟨-, hav, hw, hi, h0⟩ := hq
  have hfront : s.txq.frontIndex % s.txq.size = s.txq.frontIndex := by
    rcases Nat.eq_zero_or_pos s.txq.size with hz | hpos
    · rw [hz, Nat.mod_zero]
    · exact Nat.mod_eq_of_lt (hi hpos).1
  rw [onLinkResponse, if_neg (by simp [hs, hlr]), if_neg (not_lt.mpr hd)]
  rcases Nat.eq_zero_or_pos (deliveredCount a s) with hz | hpos
  · rw [hz, Nat.add_zero, Nat.add_zero, hfront]
    rfl
  · rw [popFrontMany_of_window hpos hd hw]
    rfl

/-- Settles O44: with the code that the parameter names, the stype0 half is R238. -/
theorem linkResponseResynchronizes : Obligations.LinkResponseResynchronizes := by
  intro p0 p1 s1 cmd crc s code hh h1 hcode hq d u i hi
  have hhalf : onLinkResponse p0 s = .ok u := by
    by_cases hignored : s.tx.state ≠ .outputErrorStopped ∨ s.tx.lrPending = true
    · rw [onLinkResponse, if_pos hignored]
      exact congrArg Except.ok (if_pos hignored).symm
    by_cases hwindow : s.txq.windowSize < d
    · rw [onLinkResponse, if_neg hignored, if_pos (show s.txq.windowSize < deliveredCount p0 s from hwindow)]
      exact congrArg Except.ok ((if_neg hignored).trans (if_pos hwindow)).symm
    · obtain ⟨hs, hlr⟩ := not_or.mp hignored
      rw [onLinkResponse_of_valid (not_not.mp hs) (by simpa using hlr) (not_lt.mp hwindow) hq]
      exact congrArg Except.ok ((if_neg hignored).trans (if_neg hwindow)).symm
  have hleaves : Stype0Leaves ⟨code, p0, p1, s1, cmd, crc⟩ s u :=
    stype0Leaves_of_code h1 ((stype0Code_otherCode (not_ackCode_of_otherRow hi)).trans ((if_pos hcode).trans hhalf))
  have hrun := exec_of_stype0Leaves (deliveredSymbol_otherRow hi) hh hleaves
  refine ⟨hrun, fun hs1 => hrun.trans (runStype1_eventOrNop ?_ hs1)⟩
  rw [(receiverFrame_of_stype0Leaves hleaves).cfg, hcode]
  exact stype0Unsupported_linkResponse _

/-- Settles O45: with another code, the stype0 half is empty, and the symbol is counted as unsupported. -/
theorem reservedStype0OnlyCounts : Obligations.ReservedStype0OnlyCounts := by
  intro p0 p1 s1 cmd crc s code hh h1 hcode i hi
  have hnot := not_ackCode_of_otherRow hi
  have hleaves : Stype0Leaves ⟨code, p0, p1, s1, cmd, crc⟩ s s :=
    stype0Leaves_of_code h1 ((stype0Code_otherCode hnot).trans (if_neg hcode))
  have hrun := exec_of_stype0Leaves (deliveredSymbol_otherRow hi) hh hleaves
  refine ⟨hrun, fun hs1 => ?_⟩
  have hun : unsupported s.cfg ⟨code, p0, p1, s1, cmd, crc⟩ = true := by
    refine unsupported_iff.mpr (.inl ⟨?_, h1⟩)
    simp only [List.mem_cons, List.not_mem_nil, or_false, not_or] at hnot
    simp [stype0Unsupported, hnot, hcode]
  have hnoEffect : stype1Code ⟨code, p0, p1, s1, cmd, crc⟩ s = .ok s :=
    stype1Code_of_noEffect (by tauto)
  rw [hrun, runStype1_of_ok hnoEffect, endSymbol, countUnsupported_of_unsupported hun]
  rfl

end Sys2Proof.Machine
end

section
/-!
Bring-up from power-on (R229, R274, R334).
-/

namespace Sys2Proof.Machine

variable {s t u : State}

/-- A run of instructions, its first one done. -/
theorem execAll_cons {i : Instr} (h : exec i s = .next t) (is : List Instr) :
    execAll (i :: is) s = execAll is t := by rw [execAll, h]

/-- The port that has heard the peer's STATUS, carrying `bs`, and has emitted `k` STATUS symbols of its own (R181,
R229). -/
structure BringUp (cfg : Config) (bs : Field5) (k : Nat) (s : State) : Prop where
  params : s.cfg = cfg
  rxState : s.rx.state = .linkInitialized
  statusReceived : s.rx.statusReceived = true
  acked : s.rx.ackidAcked = s.rx.ackid
  txState : s.tx.state = if k = cfg.nStatus then .linkInitialized else .portInitialized
  statusCounter : s.tx.statusCounter = k
  mailbox : s.tx.mailbox = .noRequest
  bufferStatus : s.tx.bufferStatus = bs
  counter : s.counter = Vector.replicate 20 0#32

namespace BringUp

variable {cfg : Config} {bs : Field5} {k : Nat}

/-- Short of N_STATUS, a PORT_GET_SYMBOL emits the next STATUS (R229). -/
theorem getSymbol (h : BringUp cfg bs k s) (hk : k < cfg.nStatus) :
    ∃ t, exec .portGetSymbol s = .next t ∧ BringUp cfg bs (k + 1) t := by
  have hport : s.tx.state = .portInitialized := by rw [h.txState, if_neg (by omega)]
  have hcount : nextStatusCount s = k + 1 := by
    rw [nextStatusCount, h.statusCounter, h.params]
    omega
  have htx : (if s.rx.statusReceived = true ∧ s.cfg.nStatus ≤ nextStatusCount s then TxState.linkInitialized
      else s.tx.state) = if k + 1 = cfg.nStatus then .linkInitialized else .portInitialized := by
    rw [hcount, h.params, hport]
    exact if_congr ⟨fun h' => by omega, fun h' => ⟨h.statusReceived, h'.ge⟩⟩ rfl rfl
  exact ⟨_, exec_portGetSymbol_of_ok (getSymbol_of_portInitialized h.mailbox h.acked hport),
    h.params, h.rxState, h.statusReceived, h.acked, htx, hcount, h.mailbox, h.bufferStatus, h.counter⟩

/-- `n` more STATUS symbols, up to N_STATUS in all. -/
theorem execAll_replicate (n : Nat) (h : BringUp cfg bs k s) (hn : k + n ≤ cfg.nStatus) :
    ∃ t, execAll (List.replicate n .portGetSymbol) s = .next t ∧ BringUp cfg bs (k + n) t := by
  induction n generalizing k s with
  | zero => exact ⟨s, rfl, h⟩
  | succ n ih =>
    obtain ⟨u, hu, hnext⟩ := h.getSymbol (by omega)
    obtain ⟨t, ht, hend⟩ := ih hnext (by omega)
    refine ⟨t, ?_, by rwa [Nat.add_assoc, Nat.add_comm 1] at hend⟩
    rw [List.replicate_succ, execAll_cons hu, ht]

end BringUp

/-- A STATUS with a NOP, in a port that waits for it, initializes the link (R181). -/
theorem exec_status_of_portInitialized (bs : Field5) (hs : s.rx.state = .portInitialized) :
    exec (.portAddSymbol (.control (controlSymbolOf 4#3 s.tx.ackid bs 7#3 0#3))) s =
      .next { s with
        rx := { s.rx with statusReceived := true, state := .linkInitialized }
        tx := { s.tx with bufferStatus := bs }
        response := ⟨0#32, .idle, []⟩ } := by
  obtain ⟨crc, hc⟩ := exists_controlSymbolOf_eq 4#3 s.tx.ackid bs 7#3 0#3
  have hup : s.rx.state ≠ .uninitialized := by simp [hs]
  have hhalf : stype0Code ⟨4#3, s.tx.ackid, bs, 7#3, 0#3, crc⟩ s =
      .ok (onStatus s.tx.ackid (setBufferStatus bs s)) := rfl
  have hon : onStatus s.tx.ackid (setBufferStatus bs s) = { setBufferStatus bs s with
      rx := { s.rx with statusReceived := true, state := .linkInitialized } } := if_pos ⟨hs, rfl⟩
  rw [hon] at hhalf
  rw [hc]
  exact (exec_of_supportedStype0 rfl (heard_of_controlSymbolOf hc hup) (.inr (.inr (.inr rfl)))
    (stype0Leaves_of_code (show (7#3 : Field3) ≠ stype1Sop by decide) hhalf)).2 (.inr rfl)

/-- In a port that is initialized, the STATUS of the peer starts the bring-up. -/
theorem BringUp.of_status {cfg : Config} {bs : Field5} (hpos : 0 < cfg.nStatus) (hcfg : s.cfg = cfg)
    (hrx : s.rx = rxCleared .portInitialized) (htx : s.tx = txCleared .portInitialized)
    (hc : s.counter = Vector.replicate 20 0#32) :
    ∃ t, exec (.portAddSymbol (.control (controlSymbolOf 4#3 0#5 bs 7#3 0#3))) s = .next t ∧ BringUp cfg bs 0 t := by
  have hrun := exec_status_of_portInitialized bs (s := s) (by rw [hrx]; rfl)
  rw [htx] at hrun
  exact ⟨_, hrun, hcfg, rfl, rfl, by rw [hrx]; rfl, (if_neg hpos.ne).symm, rfl, rfl, rfl, hc⟩

/-- PORT_SET_STATUS(1) after power-on (R274). -/
theorem exec_portSetStatus_powerOn (cfg : Config) :
    ∃ s, exec (.portSetStatus 1#32) (State.powerOn cfg) = .next s ∧ s.cfg = cfg ∧ s.rx = rxCleared .portInitialized ∧
      s.tx = txCleared .portInitialized ∧ s.counter = Vector.replicate 20 0#32 := by
  have hup := exec_portSetStatus_up (show 1#32 ≠ 0#32 by decide) (State.powerOn cfg)
  rw [linkUp_of_down rfl] at hup
  exact ⟨_, hup, rfl, rfl, rfl, rfl⟩

/-- Settles O58: the STATUS of the peer starts the bring-up, and each symbol that the port emits takes it one on. -/
theorem bringUpTakesNStatusSymbols : Obligations.BringUpTakesNStatusSymbols := by
  intro cfg bs n hpos hn
  obtain ⟨u, hu, hcfg, hrx, htx, hc⟩ := exec_portSetStatus_powerOn cfg
  obtain ⟨s, hs, hstart⟩ := BringUp.of_status (bs := bs) hpos hcfg hrx htx hc
  obtain ⟨t, ht, hend⟩ := hstart.execAll_replicate n (by omega)
  rw [Nat.zero_add] at hend
  refine ⟨t, (execAll_cons hu _).trans ((execAll_cons hs _).trans ht), hend.rxState, hend.txState, hend.statusCounter, hend.bufferStatus, hend.counter, ?_⟩
  rw [Bool.eq_iff_iff, linkIsInitialized_iff, decide_eq_true_iff, hend.txState]
  simp [hend.rxState, hend.mailbox]

end Sys2Proof.Machine
end

section
/-!
The recovery handshake between two engines (R308): what each of its symbols does to the engine that sends it and to the
one that receives it.
-/

namespace Sys2Proof.Machine

variable {a b a' b' : State}

/-- One symbol over the link (R323), from its two halves. -/
theorem sendSymbol_eq (ha : exec .portGetSymbol a = .next a')
    (hb : exec (.portAddSymbol a'.response.sym) b = .next b') : sendSymbol a b = some (a', b') := by
  simp only [sendSymbol, ha, hb]

/-- A built symbol with a supported stype0 and a NOP does what its stype0 half does (R176, R190). -/
theorem exec_controlSymbolOf_nop {s u : State} {s0 : Field3} {p0 p1 : Field5} (hup : s.rx.state ≠ .uninitialized)
    (hhalf : ∀ crc, stype0Code ⟨s0, p0, p1, 7#3, 0#3, crc⟩ s = .ok u) (h0 : stype0Unsupported u.cfg s0 = false) :
    exec (.portAddSymbol (.control (controlSymbolOf s0 p0 p1 7#3 0#3))) s =
      .next { u with response := ⟨0#32, .idle, []⟩ } := by
  obtain ⟨crc, hc⟩ := exists_controlSymbolOf_eq s0 p0 p1 7#3 0#3
  rw [hc, exec_of_stype0Leaves rfl (heard_of_controlSymbolOf hc hup)
    (stype0Leaves_of_code (show (7#3 : Field3) ≠ stype1Sop by decide) (hhalf crc))]
  exact runStype1_eventOrNop h0 (.inr rfl)

/-- The state of a receiver stopped by a control symbol with a bad CRC-5 (R175, R302). -/
def inputStopped (s : State) : State :=
  { inputError 2#5 (inc .inboundErrorControlCrc s) with response := ⟨0#32, .idle, []⟩ }

/-- A control symbol with a bad CRC-5 stops a receiver that is armed (R175, R302). -/
theorem exec_badCrc {c : Body} (hc : crcGood c = false)
    (hb : b.rx.state = .linkInitialized ∨ b.rx.state = .inputRetryStopped) :
    exec (.portAddSymbol (.control c)) b = .next (inputStopped b) := by
  have hup : b.rx.state ≠ .uninitialized := by rcases hb with hb | hb <;> simp [hb]
  rw [exec_eq_addSymbol rfl, addSymbol_control _ hup, controlSymbol_of_bad hc, badCrcSymbol,
    if_pos (inputErrorArmed_iff.mpr hb), finish_ok]
  rfl

/-- The state of an engine whose mailbox request has been answered by `sym` (R223). -/
def mailboxEmptied (sym : Symbol) (s : State) : State :=
  { s with tx := { s.tx with mailbox := .noRequest, mailboxParam := 0#5 }, response := ⟨0#32, sym, []⟩ }

/-- The state of a transmitter stopped by a PACKET_NOT_ACCEPTED (R180, R305). -/
def outputStopped (cause : Field5) (s : State) : State :=
  { outputError (inc (partnerCounter cause) s) with response := ⟨0#32, .idle, []⟩ }

/-- A PACKET_NOT_ACCEPTED stops a transmitter that is sending (R180, R223). -/
theorem sendSymbol_notAccepted (hb : b.tx.state ≠ .uninitialized) (hm : b.tx.mailbox = .sendPacketNotAccepted)
    (ha : a.rx.state ≠ .uninitialized) (hs : a.tx.state = .linkInitialized) :
    ∃ sym, sendSymbol b a = some (mailboxEmptied sym b, outputStopped b.tx.mailboxParam a) := by
  have hemit := (mailboxThenAcknowledgement b hb).2.1 hm
  refine ⟨_, sendSymbol_eq hemit (exec_controlSymbolOf_nop ha (fun crc => ?_) (stype0Unsupported_eq_false ?_))⟩
  · have hactive : outputActive a = true := by simp [outputActive, hs]
    exact congrArg Except.ok (if_pos hactive)
  · exact .inr (.inr (.inl rfl))

/-- The state of a transmitter whose pending LINK_REQUEST has been sent as `sym` (R227). -/
def linkRequestSent (sym : Symbol) (s : State) : State :=
  { s with
    tx := { s.tx with
      lrPending := false, frameTimeout := s.tx.frameTimeout.set s.tx.ackid.toFin s.port.time, bufstatSent := bufStatus s }
    response := ⟨0#32, sym, []⟩ }

/-- The state of a stopped receiver after a LINK_REQUEST that carries the buffer status `bs` (R188). -/
def linkRequestAnswered (bs : Field5) (s : State) : State :=
  { inputRecover (portStatusOf s.cfg s.rx.state) (inc .partnerLinkRequest (setBufferStatus bs s)) with
    response := ⟨0#32, .idle, []⟩ }

/-- A STATUS is supported with every stype1 but the reserved one and another LINK_REQUEST (R93). -/
theorem not_unsupported_of_status {cfg : Config} {f : ControlFields} (h0 : f.stype0 = stype0Status)
    (h1 : f.stype1 ≠ stype1Reserved) (hcmd : f.stype1 = stype1Lreq → f.cmd = cfg.lreqInputStatus) :
    ¬ unsupported cfg f = true := by
  rw [unsupported_iff, stype0Unsupported_eq_false (.inr (.inr (.inr h0)))]
  simpa [h1] using hcmd

/-- Past PORT_INITIALIZED a STATUS only writes `tx_buffer_status` (R181). -/
theorem stype0Leaves_statusOnly {s : State} {f : ControlFields} (h0 : f.stype0 = stype0Status)
    (h1 : f.stype1 ≠ stype1Sop) (hs : s.rx.state ≠ .portInitialized) :
    Stype0Leaves f s (setBufferStatus f.param1 s) := by
  have hon : onStatus f.param0 (setBufferStatus f.param1 s) = setBufferStatus f.param1 s := if_neg (by simp [hs])
  refine stype0Leaves_of_code h1 ?_
  rw [stype0Code, h0]
  exact congrArg Except.ok hon

/-- A STATUS with a LINK_REQUEST(input-status) brings a stopped receiver back (R181, R188). -/
theorem exec_statusLinkRequest {f : ControlFields} {i : Instr}
    (hi : deliveredSymbol i = some (.control (bodyOf f))) (hh : Heard f b) (h0 : f.stype0 = stype0Status)
    (h1 : f.stype1 = stype1Lreq) (hcmd : f.cmd = b.cfg.lreqInputStatus) (hb : b.rx.state = .inputErrorStopped) :
    exec i b = .next (linkRequestAnswered f.param1 b) := by
  have hleaves := stype0Leaves_statusOnly (s := b) h0 (by rw [h1]; decide) (by simp [hb])
  have hhalf : stype1Code f (setBufferStatus f.param1 b) = .ok (inputRecover (portStatusOf b.cfg b.rx.state)
      (inc .partnerLinkRequest (setBufferStatus f.param1 b))) := by
    have hanswered : linkRequestHalf f.cmd (setBufferStatus f.param1 b) = _ := if_pos hcmd
    rw [stype1Code, h1]
    exact congrArg Except.ok (hanswered.trans (if_neg (by simp [hb])))
  have hsupported : ¬ unsupported b.cfg f = true :=
    not_unsupported_of_status h0 (by rw [h1]; decide) fun _ => hcmd
  have hcount : countUnsupported f (inputRecover (portStatusOf b.cfg b.rx.state)
      (inc .partnerLinkRequest (setBufferStatus f.param1 b))) = _ := countUnsupported_of_supported hsupported
  rw [exec_of_stype0Leaves hi hh hleaves, runStype1_of_ok hhalf, endSymbol, hcount]
  rfl

/-- The pending LINK_REQUEST brings a stopped receiver back (R188, R227). -/
theorem sendSymbol_linkRequest (hm : a.tx.mailbox = .noRequest) (hack : a.rx.ackidAcked = a.rx.ackid)
    (hs : a.tx.state = .outputErrorStopped) (hlr : a.tx.lrPending = true) (hb : b.rx.state = .inputErrorStopped)
    (hcode : b.cfg.lreqInputStatus = a.cfg.lreqInputStatus) :
    ∃ sym, sendSymbol a b = some (linkRequestSent sym a, linkRequestAnswered (bufStatus a) b) := by
  obtain ⟨crc, hc⟩ := exists_controlSymbolOf_eq 4#3 a.rx.ackid (bufStatus a) 4#3 a.cfg.lreqInputStatus
  have hemit := (linkRequestOnTimeoutRepeatAndError a hm hack).2.2 hs hlr
  have hheard := heard_of_controlSymbolOf hc (s := b) (by simp [hb])
  have hsym : deliveredSymbol (.portAddSymbol (.control
      (controlSymbolOf 4#3 a.rx.ackid (bufStatus a) 4#3 a.cfg.lreqInputStatus))) = some (.control (bodyOf _)) :=
    congrArg (fun c => some (Symbol.control c)) hc
  exact ⟨_, sendSymbol_eq hemit (exec_statusLinkRequest hsym hheard rfl rfl hcode.symm hb)⟩

/-- The state of a transmitter resynchronized on the ackID `p0` (R238). -/
def resynchronized (p0 : Field5) (s : State) : State :=
  { inc .outboundRetry (incBy .outboundComplete (deliveredCount p0 s) { s with
    tx := { s.tx with ackid := p0, ackidWindow := p0, state := .linkInitialized, frameState := .start, counter := 0 }
    txq := { s.txq with
      frontIndex := (s.txq.frontIndex + deliveredCount p0 s) % s.txq.size
      available := s.txq.available + deliveredCount p0 s
      windowIndex := (s.txq.frontIndex + deliveredCount p0 s) % s.txq.size
      windowSize := 0 } }) with
    response := ⟨0#32, .idle, []⟩ }

/-- The LINK_RESPONSE brings a stopped transmitter back (R182, R223, R238). -/
theorem sendSymbol_linkResponse (hb : b.tx.state ≠ .uninitialized) (hm : b.tx.mailbox = .sendLinkResponse)
    (hok : Config.ok a.cfg) (hcode : b.cfg.stype0LinkResponse = a.cfg.stype0LinkResponse)
    (ha : a.rx.state ≠ .uninitialized) (hs : a.tx.state = .outputErrorStopped) (hlr : a.tx.lrPending = false)
    (hd : deliveredCount b.rx.ackid a ≤ a.txq.windowSize) (hq : QueueOk a.cfg a.cfg.txWords a.txq) :
    ∃ sym, sendSymbol b a = some (mailboxEmptied sym b, resynchronized b.rx.ackid a) := by
  obtain ⟨-, hacc, hretry, hnacc, hstatus⟩ := hok
  have hemit := (mailboxThenAcknowledgement b hb).2.2.1 hm
  refine ⟨_, sendSymbol_eq hemit (exec_controlSymbolOf_nop ha (fun crc => ?_) ?_)⟩
  · have hother : b.cfg.stype0LinkResponse ∉ [stype0Acc, stype0Retry, stype0Nacc, stype0Status] := by
      simp [hcode, hacc, hretry, hnacc, hstatus, stype0Acc, stype0Retry, stype0Nacc, stype0Status]
    rw [stype0Code_otherCode hother, if_pos hcode]
    exact onLinkResponse_of_valid hs hlr hd hq
  · rw [hcode]
    exact stype0Unsupported_linkResponse a.cfg

/-- Settles O60: the bad symbol, then the NACC, the LINK_REQUEST and the LINK_RESPONSE, each by its own lemma. -/
theorem recoveryHandshakeResynchronizes : Obligations.RecoveryHandshakeResynchronizes := by
  intro a b c ha hb hok hresp hlreq hbs hc has ham haa hd
  obtain ⟨-, -, -, hq, -, -, -, -, -, -, -, hcoupled⟩ := ha
  obtain ⟨-, -, -, -, -, -, -, -, -, -, -, hcoupledb⟩ := hb
  have haup : a.rx.state ≠ .uninitialized := fun h => by simp [hcoupled.mp h] at has
  have hbup : b.tx.state ≠ .uninitialized := fun h => by simp [hcoupledb.mpr h] at hbs
  obtain ⟨nacc, h1⟩ := sendSymbol_notAccepted (b := inputStopped b) hbup rfl haup has
  obtain ⟨request, h2⟩ := sendSymbol_linkRequest (a := outputStopped 2#5 a) (b := mailboxEmptied nacc (inputStopped b))
    ham haa rfl rfl rfl hlreq
  obtain ⟨answer, h3⟩ := sendSymbol_linkResponse (a := linkRequestSent request (outputStopped 2#5 a))
    (b := linkRequestAnswered (bufStatus (outputStopped 2#5 a)) (mailboxEmptied nacc (inputStopped b)))
    hbup rfl hok hresp haup rfl rfl hd hq
  have hcounters : ∀ id, counterOf (resynchronized b.rx.ackid (linkRequestSent request (outputStopped 2#5 a))) id =
      counterOf (inc .outboundRetry (incBy .outboundComplete (b.rx.ackid - a.tx.ackid).toNat
        (inc .partnerErrorControlCrc a))) id := fun _ => rfl
  simp only [counterOf_inc, counterOf_incBy] at hcounters
  exact ⟨_, _, _, _, _, _, _, exec_badCrc hc hbs, rfl, h1, rfl, h2, h3, rfl, rfl, rfl, rfl, rfl, rfl, rfl,
    queuedPackets_of_retired ⟨rfl, rfl, rfl⟩, hcounters .partnerErrorControlCrc, hcounters .outboundRetry,
    hcounters .outboundComplete⟩

end Sys2Proof.Machine
end

section
/-!
A packet crosses the link (R159, R184, R186, R194, R230 to R232): what the sender is while it emits the frame, and what
the receiver is while it takes it.
-/

namespace Sys2Proof.Machine

/-! ### The sender -/

section sender

variable {a s t : State} {pkt : Packet} {sym : Symbol} {k : Nat}

/-- One more symbol in front of those emitted. -/
theorem emitted_succ {n : Nat} {r : List Symbol × State} (h : exec .portGetSymbol s = .next t)
    (hr : emitted n t = some r) : emitted (n + 1) s = some (t.response.sym :: r.1, r.2) := by
  simp only [emitted, h, hr, Option.map_some]

/-- Engine `a` with the frame of its window's packet begun, `k` words of it emitted, and the last symbol `sym`. -/
def inFrame (a : State) (k : Nat) (sym : Symbol) : State :=
  { a with
    tx := { a.tx with frameState := .body, counter := k, bufstatSent := bufStatus a }
    response := ⟨0#32, sym, []⟩ }

/-- The START_OF_PACKET of the window's packet (R159). -/
def sopOf (a : State) : Symbol := .control (controlSymbolOf 4#3 a.tx.ackidWindow (bufStatus a) 0#3 0#3)

/-- The END_OF_PACKET of the window's packet (R159). -/
def eopOf (a : State) : Symbol := .control (controlSymbolOf 4#3 a.rx.ackid (bufStatus a) 2#3 0#3)

/-- Engine `a` with the frame of its window's packet sent: the packet is stamped and in the window (R128, R232). -/
def frameSent (a : State) : State :=
  { a with
    txq := { a.txq with windowIndex := (a.txq.windowIndex + 1) % a.txq.size, windowSize := a.txq.windowSize + 1 }
    tx := { a.tx with
      frameTimeout := a.tx.frameTimeout.set a.tx.ackidWindow.toFin a.port.time
      ackidWindow := a.tx.ackidWindow + 1#5
      frameState := .start, counter := 0, bufstatSent := bufStatus a }
    response := ⟨0#32, eopOf a, []⟩ }

/-- Engine `a` has nothing of higher priority to send than the frame of the packet `pkt` in its window (R220). -/
structure ReadyToSend (a : State) (pkt : Packet) : Prop where
  linked : a.tx.state = .linkInitialized
  mailbox : a.tx.mailbox = .noRequest
  acked : a.rx.ackidAcked = a.rx.ackid
  noTimeout : a.txq.windowSize = 0 ∨ timedOut a = false
  available : windowAvailable a.txq ≠ 0
  packet : windowPacket a.cfg a.txq a.txbuf = .ok pkt

/-- In a frame, the next symbol is of the frame (R231). -/
theorem ReadyToSend.getSymbol_inFrame (h : ReadyToSend a pkt) :
    getSymbol (inFrame a k sym) = dataOrEopSymbol (inFrame a k sym) := by
  have hto : (inFrame a k sym).txq.windowSize = 0 ∨ timedOut (inFrame a k sym) = false := h.noTimeout
  rw [getSymbol_of_linkInitialized (s := inFrame a k sym) h.mailbox h.acked h.linked, if_neg (not_headTimeout hto)]
  exact if_pos rfl

theorem ReadyToSend.exec_word (h : ReadyToSend a pkt) {x : Word} (hx : pkt[k]? = some x) :
    exec .portGetSymbol (inFrame a k sym) = .next (inFrame a (k + 1) (.data x)) :=
  exec_portGetSymbol_of_ok
    (h.getSymbol_inFrame.trans (dataOrEopSymbol_of_word (s := inFrame a k sym) h.packet hx))

theorem ReadyToSend.exec_end (h : ReadyToSend a pkt) (hx : pkt[k]? = none) :
    exec .portGetSymbol (inFrame a k sym) = .next (frameSent a) :=
  exec_portGetSymbol_of_ok (h.getSymbol_inFrame.trans
    ((dataOrEopSymbol_of_end (s := inFrame a k sym) h.packet hx).trans (eopSymbol_of_window h.available)))

/-- The words that are left of the packet, and its end. -/
theorem ReadyToSend.emitted_words (h : ReadyToSend a pkt) (ws : Packet) (hws : pkt.drop k = ws) :
    emitted (ws.length + 1) (inFrame a k sym) = some (ws.map .data ++ [eopOf a], frameSent a) := by
  induction ws generalizing k sym with
  | nil =>
    have hdone : pkt[k]? = none := List.getElem?_eq_none (List.drop_eq_nil_iff.mp hws)
    exact emitted_succ (n := 0) (h.exec_end hdone) rfl
  | cons x ws ih =>
    have hx : pkt[k]? = some x := by rw [← List.head?_drop, hws, List.head?_cons]
    have hrest : pkt.drop (k + 1) = ws := by rw [← List.tail_drop, hws, List.tail_cons]
    exact emitted_succ (h.exec_word hx) (ih hrest)

/-- An engine with the invariant that can start a packet emits its frame (R159, R230 to R232). -/
theorem emitted_frame (hinv : Inv a) (hs : a.tx.state = .linkInitialized) (hf : a.tx.frameState = .start)
    (hm : a.tx.mailbox = .noRequest) (hack : a.rx.ackidAcked = a.rx.ackid) (hcan : canStart a = true)
    (hto : a.txq.windowSize = 0 ∨ timedOut a = false) (hpkt : pkt = storedPacket a.cfg a.txbuf a.txq.windowIndex) :
    pkt ≠ [] ∧ emitted (pkt.length + 2) a = some (sopOf a :: (pkt.map .data ++ [eopOf a]), frameSent a) := by
  have hget : getSymbol a = .ok (sopSymbol a) := by
    rw [getSymbol_of_linkInitialized hm hack hs, if_neg (not_headTimeout hto), if_neg (by simp [hf]), if_pos hcan]
  have hsop : exec .portGetSymbol a = .next (inFrame a 0 (sopOf a)) := exec_portGetSymbol_of_ok hget
  obtain ⟨hav, hidx, hslot⟩ := windowSlot_of_body (exec_keeps_inv _ hinv hsop) rfl
  obtain ⟨p, hp, hlength⟩ := slotPacket_isOk hidx hslot
  obtain rfl : pkt = p := hpkt.trans (storedPacket_of_slotPacket hp)
  have hready : ReadyToSend a pkt := ⟨hs, hm, hack, hto, hav, (if_neg hav).trans hp⟩
  refine ⟨fun hnil => ?_, emitted_succ hsop (hready.emitted_words pkt rfl)⟩
  have hpos := hslot.1
  rw [← hlength, hnil] at hpos
  exact absurd hpos (by decide)

end sender

/-! ### The receiver -/

section receiver

variable {b s t : State} {ws : Packet} {w : Word}

/-- The running CRC-16 after one more word (R156). -/
theorem crcFrom_append_singleton (cfg : Config) (k : Nat) (ws : Packet) (w : Word) (r : BitVec 16) :
    crcFrom cfg k (ws ++ [w]) r = crc16Word (crc16Covered cfg (k + ws.length) w) (crcFrom cfg k ws r) := by
  induction ws generalizing k r with
  | nil => rfl
  | cons x ws ih => rw [List.cons_append, crcFrom, ih, crcFrom, List.length_cons, Nat.add_assoc, Nat.add_comm 1]

/-- Engine `b` has taken the words `ws` of a packet with its SOP, and nothing else (R174, R184). -/
structure Receiving (b : State) (ws : Packet) (s : State) : Prop where
  inv : Inv s
  linked : s.rx.state = .linkInitialized
  receiving : s.rx.receiving = true
  counter : s.rx.counter = ws.length
  crc : s.rx.crc = crcFrom b.cfg 0 ws 0xFFFF#16
  staged : stagedPacket s = ws
  ackid : s.rx.ackid = b.rx.ackid
  params : s.cfg = b.cfg
  complete : counterOf s .inboundComplete = counterOf b .inboundComplete
  queued : queuedPackets s.cfg s.rxq s.rxbuf = queuedPackets b.cfg b.rxq b.rxbuf

/-- A SOP with the ackID expected, and a free slot, starts a packet (R184). -/
theorem exec_sop_of_expected {p0 p1 : Field5} (hb : b.rx.state = .linkInitialized) (hr : b.rx.receiving = false)
    (ha : p0 = b.rx.ackid) (hav : 0 < b.rxq.available) :
    exec (.portAddSymbol (.control (controlSymbolOf 4#3 p0 p1 0#3 0#3))) b =
      .next { setBufferStatus p1 b with
        rx := { b.rx with receiving := true, counter := 0, crc := 0xFFFF#16 }, response := ⟨0#32, .idle, []⟩ } := by
  obtain ⟨crc, hc⟩ := exists_controlSymbolOf_eq 4#3 p0 p1 0#3 0#3
  have hstart : startPacket p0 (setBufferStatus p1 b) = { setBufferStatus p1 b with
      rx := { b.rx with receiving := true, counter := 0, crc := 0xFFFF#16 } } :=
    (if_neg (not_not.mpr ha)).trans (if_neg hav.ne')
  have hrow := symbolRowIsPortAddSymbol (.startOfPacket 4#3 p0 p1 0#3 crc) _ b rfl
  rw [← hc] at hrow
  have hsop : exec (.startOfPacket 4#3 p0 p1 0#3 crc) b =
      .next { startPacket p0 (setBufferStatus p1 b) with response := ⟨0#32, .idle, []⟩ } :=
    (startOfPacketChecksAckidThenSpace 4#3 p0 p1 0#3 crc b (heard_of_controlSymbolOf hc (by simp [hb]))).2.1 hb hr
  rw [← hrow, hsop, hstart]

/-- The SOP starts the packet with no word. -/
theorem Receiving.start {p0 p1 : Field5} (hinv : Inv b) (hb : b.rx.state = .linkInitialized)
    (hr : b.rx.receiving = false) (ha : p0 = b.rx.ackid) (hav : 0 < b.rxq.available) :
    ∃ s, exec (.portAddSymbol (.control (controlSymbolOf 4#3 p0 p1 0#3 0#3))) b = .next s ∧ Receiving b [] s := by
  have hrun := exec_sop_of_expected (p1 := p1) hb hr ha hav
  exact ⟨_, hrun, exec_keeps_inv _ hinv hrun, hb, rfl, rfl, rfl, rfl, rfl, rfl, rfl, rfl⟩

/-- A data word is staged behind those before it (R174, R135). -/
theorem Receiving.word (h : Receiving b ws s) (hfits : ws.length < b.cfg.m) (w : Word) :
    ∃ t, exec (.portAddSymbol (.data w)) s = .next t ∧ Receiving b (ws ++ [w]) t := by
  have hm : s.rx.counter ≠ s.cfg.m := by rw [h.counter, h.params]; exact hfits.ne
  obtain ⟨mem, hrun, hword, hother⟩ := (dataSymbolIsStoredOrRaised w s (.portAddSymbol (.data w)) (by simp)).2.2
    h.linked h.receiving hm h.inv
  have hinv := exec_keeps_inv _ h.inv hrun
  obtain ⟨-, hrx, -, -⟩ := inv_iff.mp h.inv
  have hkept := (inboundStep_of_exec hrun).occupiedKept h.inv
  refine ⟨_, hrun, hinv, h.linked, h.receiving, ?counter, ?crc, ?staged, h.ackid, h.params, h.complete, ?queued⟩
  case counter => rw [List.length_append, List.length_singleton, ← h.counter]
  case crc => rw [crcFrom_append_singleton, Nat.zero_add, crc16Covered, ← h.crc, ← h.counter, ← h.params]
  case staged =>
    rw [stagedPacket, List.range_succ, List.map_append, List.map_singleton]
    refine congrArg₂ _ ?_ (congrArg (fun x => [Option.getD x 0#32]) hword)
    rw [← h.staged, stagedPacket]
    refine List.map_congr_left fun k hk => congrArg (Option.getD · 0#32) (hother _ ?_)
    have hlt := List.mem_range.mp hk
    simp only [stageAddress]
    omega
  case queued => exact (queuedPackets_congr rfl rfl rfl hrx.buffer hkept).trans h.queued

/-- Words that fit, one after the other. -/
theorem Receiving.words (h : Receiving b ws s) (rest : Packet) (hfits : (ws ++ rest).length ≤ b.cfg.m) :
    ∃ t, Receiving b (ws ++ rest) t ∧ ∀ is : List Symbol,
      execAll ((rest.map Symbol.data ++ is).map .portAddSymbol) s = execAll (is.map .portAddSymbol) t := by
  induction rest generalizing ws s with
  | nil => exact ⟨s, by rwa [List.append_nil], fun _ => rfl⟩
  | cons w rest ih =>
    obtain ⟨u, hu, hnext⟩ := h.word (by simp only [List.length_append, List.length_cons] at hfits; omega) w
    obtain ⟨t, ht, hrun⟩ := ih hnext (by simpa using hfits)
    exact ⟨t, by simpa using ht, fun is => (execAll_cons hu _).trans (hrun is)⟩

/-- The EOP of a packet with residue 0 commits it (R186, R194). -/
theorem Receiving.finish {p0 p1 : Field5} (h : Receiving b ws s) (hne : ws ≠ []) (hres : packetResidue b.cfg ws = 0#16) :
    ∃ t, exec (.portAddSymbol (.control (controlSymbolOf 4#3 p0 p1 2#3 0#3))) s = .next t ∧
      t.rx.state = .linkInitialized ∧ t.rx.ackid = b.rx.ackid + 1#5 ∧
      counterOf t .inboundComplete = saturatingAdd (counterOf b .inboundComplete) 1 ∧
      queuedPackets t.cfg t.rxq t.rxbuf = queuedPackets b.cfg b.rxq b.rxbuf ++ [ws] := by
  obtain ⟨crc, hc⟩ := exists_controlSymbolOf_eq 4#3 p0 p1 2#3 0#3
  have hinv := inv_setBufferStatus p1 h.inv
  have hcrc : s.rx.crc = 0#16 := h.crc.trans hres
  have hcounter : s.rx.counter ≠ 0 := by rw [h.counter]; exact (List.length_pos_of_ne_nil hne).ne'
  obtain ⟨v, hv⟩ : ∃ v, commitPacket (setBufferStatus p1 s) = .ok v := ⟨_, commitPacket_of_inv hinv h.receiving⟩
  have heop : onEop (setBufferStatus p1 s) = commitPacket (setBufferStatus p1 s) :=
    (if_neg (not_not.mpr h.linked)).trans ((if_neg (by simp [h.receiving, hcounter])).trans (if_neg (not_not.mpr hcrc)))
  have hleaves : Stype0Leaves ⟨4#3, p0, p1, 2#3, 0#3, crc⟩ s (setBufferStatus p1 s) :=
    stype0Leaves_statusOnly rfl (show (2#3 : Field3) ≠ stype1Sop by decide) (by simp [h.linked])
  have hhalf : stype1Code ⟨4#3, p0, p1, 2#3, 0#3, crc⟩ (setBufferStatus p1 s) = .ok v := heop.trans hv
  have hsupported : ¬ unsupported v.cfg ⟨4#3, p0, p1, 2#3, 0#3, crc⟩ = true :=
    not_unsupported_of_status rfl (show (2#3 : Field3) ≠ stype1Reserved by decide)
      fun h => absurd h (show (2#3 : Field3) ≠ stype1Lreq by decide)
  have hrun : exec (.portAddSymbol (.control (controlSymbolOf 4#3 p0 p1 2#3 0#3))) s =
      .next { v with response := ⟨0#32, .idle, []⟩ } := by
    rw [hc, exec_of_stype0Leaves rfl (heard_of_controlSymbolOf hc (by simp [h.linked])) hleaves, runStype1_of_ok hhalf,
      endSymbol, countUnsupported_of_supported hsupported]
    rfl
  obtain ⟨q, mem, hback, rfl⟩ := commitPacket_eq_ok hv
  have hcommitted : Committed (setBufferStatus p1 s) { s with rxq := q, rxbuf := mem } := ⟨h.receiving, hcounter, hcrc, hback⟩
  have hstaged : stagedPacket (setBufferStatus p1 s) = ws := h.staged
  refine ⟨_, hrun, h.linked, congrArg (· + 1#5) h.ackid, ?_, ?_⟩
  · exact (counterOf_inc .inboundComplete .inboundComplete s).trans ((if_pos rfl).trans (by rw [h.complete]))
  · exact (hcommitted.queuedPackets hinv).trans (congrArg₂ (· ++ [·]) h.queued hstaged)

/-- The frame of a packet that fits, with residue 0, puts it behind the packets of the inbound queue. -/
theorem execAll_frame {pkt : Packet} {sop eop p1 p1' : Field5} (hinv : Inv b) (hb : b.rx.state = .linkInitialized)
    (hr : b.rx.receiving = false) (ha : sop = b.rx.ackid) (hav : 0 < b.rxq.available) (hfits : pkt.length ≤ b.cfg.m)
    (hne : pkt ≠ []) (hres : packetResidue b.cfg pkt = 0#16) :
    ∃ t, execAll ((.control (controlSymbolOf 4#3 sop p1 0#3 0#3) ::
          (pkt.map .data ++ [.control (controlSymbolOf 4#3 eop p1' 2#3 0#3)])).map .portAddSymbol) b = .next t ∧
      t.rx.state = .linkInitialized ∧ t.rx.ackid = b.rx.ackid + 1#5 ∧
      counterOf t .inboundComplete = saturatingAdd (counterOf b .inboundComplete) 1 ∧
      queuedPackets t.cfg t.rxq t.rxbuf = queuedPackets b.cfg b.rxq b.rxbuf ++ [pkt] := by
  obtain ⟨s, hs, hstarted⟩ := Receiving.start (p1 := p1) hinv hb hr ha hav
  obtain ⟨u, hu, hwords⟩ := hstarted.words pkt hfits
  obtain ⟨t, ht, hend⟩ := hu.finish (p0 := eop) (p1 := p1') hne hres
  exact ⟨t, (execAll_cons hs _).trans ((hwords [_]).trans (execAll_cons ht [])), hend⟩

end receiver

/-- Settles O59: the frame of the sender, taken by the receiver. -/
theorem packetCrossesTheLink : Obligations.PacketCrossesTheLink := by
  intro a b pkt ha hb has haf ham haa hcan hto hpkt hbs hbr hback hbav hfits hres
  obtain ⟨hne, hemitted⟩ := emitted_frame ha has haf ham haa hcan hto hpkt
  obtain ⟨b', hrun, hend⟩ := execAll_frame (eop := a.rx.ackid) (p1 := bufStatus a) (p1' := bufStatus a) hb hbs hbr
    hback.symm hbav hfits hne hres
  refine ⟨frameSent a, b', hemitted, rfl, rfl, ?_, hrun, hend⟩
  exact Vector.getElem_set_self ..

end Sys2Proof.Machine
end
